-- ==== Sys2Proof/Word.lean ====
section
/-! DEFINITION. The words of the block: register words, bytes, host addresses (spec/00_scope.md R9, R12;
spec/20_memory.md R90). Their arithmetic is that of `BitVec`: modulo `2^N` (R12). -/

namespace Sys2Proof

/-- A register, mailbox or firmware-memory word: 16 bits (R9). -/
abbrev Word := BitVec 16

/-- A byte of host memory, of a descriptor or of the flash array. -/
abbrev Byte := BitVec 8

/-- A host-memory address: 64 bits (R90). -/
abbrev Addr := BitVec 64

/-- A command handle, and the width of a residual: 32 bits (R142, R151). -/
abbrev DWord := BitVec 32

end Sys2Proof
end

