-- ==== Sys2Proof/Config.lean ====
section
/-! DEFINITION. What an implementation of the block fixes and the spec leaves without a value, and the free values:
constants with no body, of which no proof can learn a value (spec/93_implementation_defined.md §3; notes/assumptions 7,
12, 15, 27, 28, 34). The numbers that DO have a candidate are in Machine/Params.lean, and what differs from card to
card is `Inst` in Machine/State.lean. -/

namespace Sys2Proof

/-- The phase in which a SCSI target answers a command (R76). -/
inductive Phase where
  | statusOnly
  | dataIn (bytes : List Byte)
  | dataOut (len : Nat)
deriving DecidableEq, Repr, Inhabited

/-- What the target oracle answers to `Command(lun, cdb)`: its phase, then the SCSI status byte, and the transfer rate
that `rate()` answers for it (R76). -/
structure CommandReply where
  phase : Phase
  status : Byte
  rate : Nat
deriving DecidableEq, Repr, Inhabited

namespace Config

/-! ### Constants of the chip with no candidate value (UNVERIFIED, safe: log 7) -/

/-- `ID_LO_VALUE` (R31, R204). -/
opaque idLoValue : Word
/-- `ID_HI_VALUE` (R31, R204). -/
opaque idHiValue : Word
/-- `SXP_PINS_DIFF_VALUE[b]` (R47, R230). -/
opaque sxpPinsDiffValue : Fin 2 → Word
/-- `FW_VER_MAJOR` (R312). -/
opaque fwVerMajor : Word
/-- `FW_VER_MINOR` (R312). -/
opaque fwVerMinor : Word
/-- `FW_VER_SUB` (R312). -/
opaque fwVerSub : Word
/-- `BIOS_BLOCK_ADDR` (R335). -/
opaque biosBlockAddr : Word
/-- `FW_MAX_CMDS` (R331). -/
opaque fwMaxCmds : Word
/-- `BIOS_PIO_FLAG_ADDR` (R426). -/
opaque biosPioFlagAddr : Word
/-- `BIOS_PIO_FLAG_BIT` (R426). -/
opaque biosPioFlagBit : Fin 16
/-- The number of the bit `TPARM_ARQ` of a target's flags (R60, R424). -/
opaque tparmArqBit : Fin 16
/-- The number of the bit `HF_BAD` of a response's header flags (R149; log 34). -/
opaque hfBadBit : Fin 8

/-- `FW_SENTINEL_ADDR` (R59, R700; log 15). -/
opaque fwSentinelAddr : Word
/-- `FW_SENTINEL_VALUE` (R59, R700; log 15). -/
opaque fwSentinelValue : Word

/-- How many entries more than two the abort queue holds (log 27). -/
opaque abortQExtra : Nat
/-- `ABORT_Q_LEN` (R54, D42): a bounded queue; DEDUCED: it holds at least the two entries of the examples M34 to M36
(log 27). -/
def abortQLen : Nat := abortQExtra + 2

/-! ### Times (R436, R730): they order nothing, and only `RESP_TIME` is observable (log 28) -/

/-- `MBOX_OVERHEAD` (R436). -/
opaque mboxOverhead : Nat
/-- A time of the transfer, before the bound of `elapsed`. -/
opaque elapsedRaw : Nat → Nat → Nat
/-- The largest `ELAPSED`. -/
opaque elapsedMax : Nat
/-- By how much `SEL_TIMEOUT_DELAY` passes every other delay. -/
opaque selTimeoutSlack : Nat
/-- `ELAPSED(bytes, rate)` (R436): any function that is bounded. -/
def elapsed (bytes rate : Nat) : Nat := elapsedRaw bytes rate % (elapsedMax + 1)
/-- `SEL_TIMEOUT_DELAY`: larger than any `ELAPSED + MBOX_OVERHEAD` (R436). -/
def selTimeoutDelay : Nat := elapsedMax + mboxOverhead + 1 + selTimeoutSlack
/-- `RESP_TIME(bytes, rate)`, with `none` for "no rate" (R415, R420, R436). -/
opaque respTime : Nat → Option Nat → Word
/-- `PROGRAM_DELAY` (R164). -/
opaque programDelay : Nat
/-- `BLOCK_ERASE_DELAY` (R164). -/
opaque blockEraseDelay : Nat
/-- `CHIP_ERASE_DELAY` (R164). -/
opaque chipEraseDelay : Nat
/-- `ERASE_ACCEPT_DELAY` (R164). -/
opaque eraseAcceptDelay : Nat

/-! ### Free oracle answers (U15, U16, U17: any value), indexed by a count of draws in the state (log 12) -/

/-- The `n`-th free answer of the DMA interface: `true` is `Ok`, `false` is `DmaError` (R90). -/
opaque freeDma : Nat → Bool
/-- The `n`-th free answer to `Target(0, t)`: whether a device is there (R76). -/
opaque freePresent : Nat → Bool
/-- The `n`-th free answer to `Command` (R76). -/
opaque freeReply : Nat → CommandReply
/-- The `n`-th free answer to `RequestSense` (R76). -/
opaque freeSense : Nat → List Byte
/-- The `n`-th free answer to `NvRead` (R77). -/
opaque freeNvram : Nat → Word

end Config

end Sys2Proof
end

