-- ==== Sys2Proof/Machine/Params.lean ====
section
/-! DEFINITION. The numbered parameters of the spec that have a candidate value: offsets, bits, codes and sizes
(spec/30_encoding.md; R10). Each value is the spec's candidate, PRESUMED from the adapter's family (notes/assumptions 1, 2,
4, 5). A name without a candidate is an argument of the card instead (`Inst` in Machine/State.lean; notes/assumptions 3, 6,
8), or a constant of Config.lean. The status codes of R133 and the bytes 0xAA, 0x55, 0x90, 0xF0 are the source's own. -/

namespace Sys2Proof.Param

/-! ### Register offsets (R121, R122, R123, R127, R129) -/

def offIdLo : Word := 0x00
def offIdHi : Word := 0x02
def offConf0 : Word := 0x04
def offConf1 : Word := 0x06
def offIcr : Word := 0x08
def offIsr : Word := 0x0A
def offSema : Word := 0x0C
def offNvram : Word := 0x0E
def offFlashData : Word := 0x10
def offFlashAddr : Word := 0x12
def offMbox : Word := 0x70
/-- `DMA_WIN_BASE`, `DMA_WIN_SIZE`: the fixed DMA window of GEN_OLD (R122). -/
def dmaWinBase : Word := 0x20
def dmaWinSize : Nat := 0x50
/-- `BANK_WIN_BASE`, `BANK_WIN_SIZE`: the switchable window (R122, R123). -/
def bankWinBase : Word := 0x80
def bankWinSize : Nat := 0x80
def soffPsr : Word := 0x20
def soffPc : Word := 0x2C
def soffMtr : Word := 0x2E
def soffHccr : Word := 0x40
def soffGpioData : Word := 0x4C
def soffGpioEnable : Word := 0x4E
def soffDmaConf : Word := 0x00
def soffDmaControl : Word := 0x02
def soffDmaStatus : Word := 0x04
def soffDmaFifo : Word := 0x06
def soffDmaAddr : Word := 0x0C
def dmaChStride : Word := 0x20

/-! ### Register bits (R124, R125, R126, R128) -/

/-- `CONF1_SXP_SEL` of GEN_OLD, a bit number (mask 0x0008). -/
def conf1SxpSelBit : Nat := 3
/-- `BANK_LO` of GEN_NEW: the field is bits 9:8. -/
def bankLo : Nat := 8
def icrSoftReset : Word := 0x0001
def icrEnAll : Word := 0x0002
def icrEnRisc : Word := 0x0004
def isrRiscInt : Word := 0x0004
def semaLock : Word := 0x0001
def semaStatus : Word := 0x0002
def semaMask : Word := semaLock ||| semaStatus
/-- The place of the HCCR command in a written word: bits 15:12. -/
def hccrCmdLo : Nat := 12
def hccrNop : BitVec 4 := 0x0
def hccrResetRisc : BitVec 4 := 0x1
def hccrPauseRisc : BitVec 4 := 0x2
def hccrReleaseRisc : BitVec 4 := 0x3
def hccrSingleStep : BitVec 4 := 0x4
def hccrSetHostInt : BitVec 4 := 0x5
def hccrClearHostInt : BitVec 4 := 0x6
def hccrClearRiscInt : BitVec 4 := 0x7
def hccrHostIntBit : Word := 0x0080
def hccrPausedBit : Word := 0x0020
/-- `UNMAPPED_READ` (R170, D6). -/
def unmappedRead : Word := 0x0000
/-- `PIO_EMPTY_READ` (R217, D52). -/
def pioEmptyRead : Word := 0x0000
/-- What an odd offset reads (R92, R200). -/
def oddRead : Word := 0xFFFF

/-! ### Mailbox protocol (R130, R133, R134, R135) -/

/-- `REQ_IN_SLOT = REQ_OUT_SLOT = 4` (R130, D13). -/
def reqSlot : Fin 8 := 4
/-- `RESP_IN_SLOT = RESP_OUT_SLOT = 5` (R130, D13). -/
def respSlot : Fin 8 := 5
def complete : Word := 0x4000
def invalid : Word := 0x4001
/-- `HIE`: host-interface-error. -/
def hostInterfaceError : Word := 0x4002
def testFailed : Word := 0x4003
/-- `CMD_ERROR`: no rule returns it (R382). -/
def cmdError : Word := 0x4005
def paramError : Word := 0x4006
def asyncBusReset : Word := 0x8001
def asyncSystemError : Word := 0x8002
def asyncReqXferErr : Word := 0x8003
def asyncRspXferErr : Word := 0x8004
def asyncCmdCmplt : Word := 0x8020
/-- `FWF_FAST_POST_BIT` (R342, G24). -/
def fwfFastPostBit : Nat := 0
/-- `CHECKSUM_LEN_OFFSET` (R307, G28). -/
def checksumLenOffset : Word := 3

def opNoOp : Word := 0x00
def opLoadRam : Word := 0x01
def opExecFirmware : Word := 0x02
def opDumpRam : Word := 0x03
def opWriteRamWord : Word := 0x04
def opReadRamWord : Word := 0x05
def opMailboxRegTest : Word := 0x06
def opVerifyChecksum : Word := 0x07
def opAboutFirmware : Word := 0x08
def opInitReqQueue : Word := 0x10
def opInitResQueue : Word := 0x11
def opExecuteIocb : Word := 0x12
def opWakeUp : Word := 0x13
def opStopFirmware : Word := 0x14
def opAbort : Word := 0x15
def opAbortDevice : Word := 0x16
def opAbortTarget : Word := 0x17
def opBusReset : Word := 0x18
def opStopQueue : Word := 0x19
def opStartQueue : Word := 0x1A
def opSingleStepQueue : Word := 0x1B
def opAbortQueue : Word := 0x1C
def opGetDevQueueStatus : Word := 0x1D
def opGetFirmwareStatus : Word := 0x1F
def opGetInitScsiId : Word := 0x20
def opGetSelectTimeout : Word := 0x21
def opGetRetryCount : Word := 0x22
def opGetTagAgeLimit : Word := 0x23
def opGetClockRate : Word := 0x24
def opGetActNegState : Word := 0x25
def opGetAsyncDataSetupTime : Word := 0x26
def opGetPciParams : Word := 0x27
def opGetTargetParams : Word := 0x28
def opGetDevQueueParams : Word := 0x29
def opGetResetDelayParams : Word := 0x2A
def opSetInitScsiId : Word := 0x30
def opSetSelectTimeout : Word := 0x31
def opSetRetryCount : Word := 0x32
def opSetTagAgeLimit : Word := 0x33
def opSetClockRate : Word := 0x34
def opSetActNegState : Word := 0x35
def opSetAsyncDataSetupTime : Word := 0x36
def opSetPciParams : Word := 0x37
def opSetTargetParams : Word := 0x38
def opSetDevQueueParams : Word := 0x39
def opSetResetDelayParams : Word := 0x3A
def opReturnBiosBlockAddr : Word := 0x40
def opWriteFourRamWords : Word := 0x41
def opExecuteBiosIocb : Word := 0x42
def opSetFirmwareFeatures : Word := 0x4A
def opGetFirmwareFeatures : Word := 0x4B
def opLoadRamA64 : Word := 0x50
def opDumpRamA64 : Word := 0x51
def opInitReqQueueA64 : Word := 0x52
def opInitResQueueA64 : Word := 0x53
def opExecuteIocbA64 : Word := 0x54

/-! ### IOCBs (R141, R148, R152 to R155) -/

def etCmd : Byte := 0x01
def etCont : Byte := 0x02
def etResp : Byte := 0x03
def etMarker : Byte := 0x04
def etCmd64 : Byte := 0x09
def etCont64 : Byte := 0x0A
def rfDisarq : Word := 0x0100
def csComplete : Word := 0x0000
def csIncomplete : Word := 0x0001
def csDma : Word := 0x0002
def csAborted : Word := 0x0005
def csTimeout : Word := 0x0006
def csDataOverrun : Word := 0x0007
def csCommandOverrun : Word := 0x0008
def csDataUnderrun : Word := 0x0015
def sfGotBus : Word := 0x0100
def sfGotTarget : Word := 0x0200
def sfSentCdb : Word := 0x0400
def sfXfrdData : Word := 0x0800
def sfGotStatus : Word := 0x1000
def sfGotSense : Word := 0x2000
def sfXferComplete : Word := 0x4000
/-- `SELTO_STATE_FLAGS` (R415, D25, G27). -/
def seltoStateFlags : Word := sfGotBus
def stfAborted : Word := 0x0020
def stfTimeout : Word := 0x0040
def stfBusReset : Word := 0x0008
def checkCondition : Byte := 0x02
/-- The size of an IOCB and of a ring entry in bytes (R9, R97). -/
def iocbSize : Nat := 64
/-- The most CDB bytes of a request (R9). -/
def cdbMax : Nat := 12
/-- The most sense bytes of a response (R9). -/
def senseMax : Nat := 32

/-! ### Flash (R161, R162) -/

def cmdUnlock1 : Byte := 0xAA
def cmdUnlock2 : Byte := 0x55
def cmdAutoselect : Byte := 0x90
def cmdReadArray : Byte := 0xF0
def cmdProgram : Byte := 0xA0
def cmdEraseSetup : Byte := 0x80
def cmdChipErase : Byte := 0x10
def cmdBlockErase : Byte := 0x30
def fstToggle : Byte := 0x40
def fstError : Byte := 0x20
def fstTimeout : Byte := 0x08
/-- The erased value of a flash byte (U8). -/
def erased : Byte := 0xFF

end Sys2Proof.Param
end

