-- ==== Sys2Proof/Syntax.lean ====
section
/-! DEFINITION. The syntax of the block's requests: the encoded requests of the four kinds (spec/30_encoding.md), the
registers they reach, and `Instr`, one constructor for each row of spec/opcode_table.json. -/

namespace Sys2Proof

/-- `GEN`: the two decoder generations (R3). -/
inductive Gen where
  | old
  | new
deriving DecidableEq, Repr, Inhabited

/-- Where a descriptor comes from (R55): a request-ring slot, the address of a direct request, or that of a BIOS
request. -/
inductive Origin where
  | ring (slot : Word)
  | direct (addr : Addr)
  | bios (addr : Addr)
deriving DecidableEq, Repr

/-- The registers an offset can name (R121, R127, R129). -/
inductive Reg where
  | idLo | idHi | conf0 | conf1 | icr | isr | sema | nvram | flashData | flashAddr | pioPort
  | mbox (i : Fin 8)
  | riscPsr | riscPc | riscMtr | hccr | gpioData | gpioEnable
  | pinsDiff (b : Fin 2)
  | dmaConf (c : Fin 2) | dmaControl (c : Fin 2) | dmaStatus (c : Fin 2) | dmaFifo (c : Fin 2)
  | dmaAddr (c : Fin 2) (j : Fin 4)
deriving DecidableEq, Repr

/-- The encoded requests of spec/30_encoding.md: register accesses (§1), a mailbox command by its opcode word (§2), a
descriptor (§3) and flash bus cycles (§4). -/
inductive Request where
  | regRead (off : Word)
  | regWrite (off v : Word)
  | mailbox (op : Word)
  | iocb (o : Origin) (b : List Byte)
  | flashWrite (d : Byte)
  | flashRead
deriving DecidableEq, Repr

/-- The numbers of the encodings that have no candidate: arguments of the model (spec/93_implementation_defined.md §3). -/
structure OpenNumbers where
  /-- `OFF_PIO_PORT` (R121). -/
  pioPort : Word
  /-- `SOFF_PINS_DIFF` (R127). -/
  pinsDiff : Word
  /-- `OP_READ_FOUR_RAM_WORDS` (R135). -/
  readFour : Word
deriving DecidableEq, Repr

/-- What the meaning of an encoding depends on beside its bits: the generation and `CONF1` for the bank (R203), whether the
flash waits for program data (R500), and the numbers that the card's spec leaves open. -/
structure DecodeCtx where
  gen : Gen
  conf1 : Word
  programSetup : Bool
  nums : OpenNumbers
deriving DecidableEq, Repr

/-- The banks of the switchable and DMA windows (R128, R203). -/
inductive Bank where
  | risc
  | sxp (b : Fin 2)
  | dma
deriving DecidableEq, Repr

/-- One constructor for each row of spec/opcode_table.json, named after its mnemonic. -/
inductive Instr where
  -- Accesses that name no register
  /-- READ_ODD (R200): a read at an odd offset. -/
  | readOdd (off : Word)
  /-- WRITE_ODD (R201): a write at an odd offset. -/
  | writeOdd (off : Word) (v : Word)
  /-- ACCESS_UNMAPPED (R202): an access at an even offset that names no register; `w` is `none` for a read, `some v` for a write of `v`. -/
  | accessUnmapped (off : Word) (w : Option Word)
  -- Fixed registers
  /-- READ_ID_LO (R204): read of ID_LO. -/
  | readIdLo
  /-- WRITE_ID_LO (R204): write of `v` to ID_LO. -/
  | writeIdLo (v : Word)
  /-- READ_ID_HI (R204): read of ID_HI. -/
  | readIdHi
  /-- WRITE_ID_HI (R204): write of `v` to ID_HI. -/
  | writeIdHi (v : Word)
  /-- READ_CONF0 (R205): read of CONF0. -/
  | readConf0
  /-- WRITE_CONF0 (R205): write of `v` to CONF0. -/
  | writeConf0 (v : Word)
  /-- READ_CONF1 (R206): read of CONF1. -/
  | readConf1
  /-- WRITE_CONF1 (R206): write of `v` to CONF1. -/
  | writeConf1 (v : Word)
  /-- READ_ICR (R208): read of ICR. -/
  | readIcr
  /-- WRITE_ICR (R207): write of `v` to ICR. -/
  | writeIcr (v : Word)
  /-- READ_ISR (R208): read of ISR. -/
  | readIsr
  /-- WRITE_ISR (R208): write of `v` to ISR. -/
  | writeIsr (v : Word)
  /-- READ_SEMA (R210): read of SEMA. -/
  | readSema
  /-- WRITE_SEMA (R209): write of `v` to SEMA. -/
  | writeSema (v : Word)
  /-- READ_NVRAM (R213): read of NVRAM. -/
  | readNvram
  /-- WRITE_NVRAM (R213): write of `v` to NVRAM. -/
  | writeNvram (v : Word)
  /-- READ_FLASH_DATA (R215): read of FLASH_DATA. -/
  | readFlashData
  /-- WRITE_FLASH_DATA (R216): write of `v` to FLASH_DATA. -/
  | writeFlashData (v : Word)
  /-- READ_FLASH_ADDR (R214): read of FLASH_ADDR. -/
  | readFlashAddr
  /-- WRITE_FLASH_ADDR (R214): write of `v` to FLASH_ADDR. -/
  | writeFlashAddr (v : Word)
  /-- READ_PIO_PORT (R217): read of PIO_PORT. -/
  | readPioPort
  /-- WRITE_PIO_PORT (R217): write of `v` to PIO_PORT. -/
  | writePioPort (v : Word)
  /-- READ_MBOX0 (R211): read of MBOX0. -/
  | readMbox0
  /-- WRITE_MBOX0 (R212): write of `v` to MBOX0. -/
  | writeMbox0 (v : Word)
  /-- READ_MBOX1 (R211): read of MBOX1. -/
  | readMbox1
  /-- WRITE_MBOX1 (R212): write of `v` to MBOX1. -/
  | writeMbox1 (v : Word)
  /-- READ_MBOX2 (R211): read of MBOX2. -/
  | readMbox2
  /-- WRITE_MBOX2 (R212): write of `v` to MBOX2. -/
  | writeMbox2 (v : Word)
  /-- READ_MBOX3 (R211): read of MBOX3. -/
  | readMbox3
  /-- WRITE_MBOX3 (R212): write of `v` to MBOX3. -/
  | writeMbox3 (v : Word)
  /-- READ_MBOX4 (R211): read of MBOX4. -/
  | readMbox4
  /-- WRITE_MBOX4 (R212): write of `v` to MBOX4. -/
  | writeMbox4 (v : Word)
  /-- READ_MBOX5 (R211): read of MBOX5. -/
  | readMbox5
  /-- WRITE_MBOX5 (R212): write of `v` to MBOX5. -/
  | writeMbox5 (v : Word)
  /-- READ_MBOX6 (R211): read of MBOX6. -/
  | readMbox6
  /-- WRITE_MBOX6 (R212): write of `v` to MBOX6. -/
  | writeMbox6 (v : Word)
  /-- READ_MBOX7 (R211): read of MBOX7. -/
  | readMbox7
  /-- WRITE_MBOX7 (R212): write of `v` to MBOX7. -/
  | writeMbox7 (v : Word)
  -- RISC bank
  /-- READ_RISC_PSR (R218): read of RISC_PSR. -/
  | readRiscPsr
  /-- WRITE_RISC_PSR (R218): write of `v` to RISC_PSR. -/
  | writeRiscPsr (v : Word)
  /-- READ_RISC_PC (R218): read of RISC_PC. -/
  | readRiscPc
  /-- WRITE_RISC_PC (R218): write of `v` to RISC_PC. -/
  | writeRiscPc (v : Word)
  /-- READ_RISC_MTR (R218): read of RISC_MTR. -/
  | readRiscMtr
  /-- WRITE_RISC_MTR (R218): write of `v` to RISC_MTR. -/
  | writeRiscMtr (v : Word)
  /-- READ_GPIO_DATA (R219): read of GPIO_DATA. -/
  | readGpioData
  /-- WRITE_GPIO_DATA (R219): write of `v` to GPIO_DATA. -/
  | writeGpioData (v : Word)
  /-- READ_GPIO_ENABLE (R219): read of GPIO_ENABLE. -/
  | readGpioEnable
  /-- WRITE_GPIO_ENABLE (R219): write of `v` to GPIO_ENABLE. -/
  | writeGpioEnable (v : Word)
  /-- READ_HCCR (R220): read of HCCR. -/
  | readHccr
  -- SXP bank
  /-- READ_SXP_PINS_DIFF (R230): `SXP_PINS_DIFF` of SXP bank `b`; `w` is `none` for a read, `some v` for the write of `v` that R230 ignores. -/
  | readSxpPinsDiff (b : Fin 2) (w : Option Word)
  -- DMA bank
  /-- ACCESS_DMA_CONF0 (R231): access to DMA_CONF0; `w` is `none` for a read, `some v` for a write. -/
  | accessDmaConf0 (w : Option Word)
  /-- ACCESS_DMA_CONTROL0 (R231): access to DMA_CONTROL0; `w` is `none` for a read, `some v` for a write. -/
  | accessDmaControl0 (w : Option Word)
  /-- ACCESS_DMA_STATUS0 (R231): access to DMA_STATUS0; `w` is `none` for a read, `some v` for a write. -/
  | accessDmaStatus0 (w : Option Word)
  /-- ACCESS_DMA_FIFO0 (R231): access to DMA_FIFO0; `w` is `none` for a read, `some v` for a write. -/
  | accessDmaFifo0 (w : Option Word)
  /-- ACCESS_DMA_ADDR0_0 (R231): access to DMA_ADDR0_0; `w` is `none` for a read, `some v` for a write. -/
  | accessDmaAddr00 (w : Option Word)
  /-- ACCESS_DMA_ADDR0_1 (R231): access to DMA_ADDR0_1; `w` is `none` for a read, `some v` for a write. -/
  | accessDmaAddr01 (w : Option Word)
  /-- ACCESS_DMA_ADDR0_2 (R231): access to DMA_ADDR0_2; `w` is `none` for a read, `some v` for a write. -/
  | accessDmaAddr02 (w : Option Word)
  /-- ACCESS_DMA_ADDR0_3 (R231): access to DMA_ADDR0_3; `w` is `none` for a read, `some v` for a write. -/
  | accessDmaAddr03 (w : Option Word)
  /-- ACCESS_DMA_CONF1 (R231): access to DMA_CONF1; `w` is `none` for a read, `some v` for a write. -/
  | accessDmaConf1 (w : Option Word)
  /-- ACCESS_DMA_CONTROL1 (R231): access to DMA_CONTROL1; `w` is `none` for a read, `some v` for a write. -/
  | accessDmaControl1 (w : Option Word)
  /-- ACCESS_DMA_STATUS1 (R231): access to DMA_STATUS1; `w` is `none` for a read, `some v` for a write. -/
  | accessDmaStatus1 (w : Option Word)
  /-- ACCESS_DMA_FIFO1 (R231): access to DMA_FIFO1; `w` is `none` for a read, `some v` for a write. -/
  | accessDmaFifo1 (w : Option Word)
  /-- ACCESS_DMA_ADDR1_0 (R231): access to DMA_ADDR1_0; `w` is `none` for a read, `some v` for a write. -/
  | accessDmaAddr10 (w : Option Word)
  /-- ACCESS_DMA_ADDR1_1 (R231): access to DMA_ADDR1_1; `w` is `none` for a read, `some v` for a write. -/
  | accessDmaAddr11 (w : Option Word)
  /-- ACCESS_DMA_ADDR1_2 (R231): access to DMA_ADDR1_2; `w` is `none` for a read, `some v` for a write. -/
  | accessDmaAddr12 (w : Option Word)
  /-- ACCESS_DMA_ADDR1_3 (R231): access to DMA_ADDR1_3; `w` is `none` for a read, `some v` for a write. -/
  | accessDmaAddr13 (w : Option Word)
  -- HCCR commands
  /-- HCCR_NOP (R222): the HCCR command NOP; `low` is the write's ignored bits 11:0. -/
  | hccrNop (low : BitVec 12)
  /-- HCCR_RESET_RISC (R223): the HCCR command RESET_RISC; `low` is the write's ignored bits 11:0. -/
  | hccrResetRisc (low : BitVec 12)
  /-- HCCR_PAUSE_RISC (R226): the HCCR command PAUSE_RISC; `low` is the write's ignored bits 11:0. -/
  | hccrPauseRisc (low : BitVec 12)
  /-- HCCR_RELEASE_RISC (R227): the HCCR command RELEASE_RISC; `low` is the write's ignored bits 11:0. -/
  | hccrReleaseRisc (low : BitVec 12)
  /-- HCCR_SINGLE_STEP (R229): the HCCR command SINGLE_STEP; `low` is the write's ignored bits 11:0. -/
  | hccrSingleStep (low : BitVec 12)
  /-- HCCR_SET_HOST_INT (R224): the HCCR command SET_HOST_INT; `low` is the write's ignored bits 11:0. -/
  | hccrSetHostInt (low : BitVec 12)
  /-- HCCR_CLEAR_HOST_INT (R228): the HCCR command CLEAR_HOST_INT; `low` is the write's ignored bits 11:0. -/
  | hccrClearHostInt (low : BitVec 12)
  /-- HCCR_CLEAR_RISC_INT (R225): the HCCR command CLEAR_RISC_INT; `low` is the write's ignored bits 11:0. -/
  | hccrClearRiscInt (low : BitVec 12)
  /-- HCCR_UNDEFINED (R229): a write to HCCR whose command code `cmd` (bits 15:12) R126 does not name; the other bits are `low`. -/
  | hccrUndefined (cmd : BitVec 4) (low : BitVec 12)
  -- Mailbox commands: the arguments are `mbin[1..7]` of the state (R132)
  /-- MBOX_NO_OP (R301): the mailbox opcode NO_OP. -/
  | mboxNoOp
  /-- MBOX_LOAD_RAM (R302): the mailbox opcode LOAD_RAM. -/
  | mboxLoadRam
  /-- MBOX_EXEC_FIRMWARE (R311): the mailbox opcode EXEC_FIRMWARE. -/
  | mboxExecFirmware
  /-- MBOX_DUMP_RAM (R303): the mailbox opcode DUMP_RAM. -/
  | mboxDumpRam
  /-- MBOX_WRITE_RAM_WORD (R304): the mailbox opcode WRITE_RAM_WORD. -/
  | mboxWriteRamWord
  /-- MBOX_READ_RAM_WORD (R305): the mailbox opcode READ_RAM_WORD. -/
  | mboxReadRamWord
  /-- MBOX_MAILBOX_REG_TEST (R313): the mailbox opcode MAILBOX_REG_TEST. -/
  | mboxMailboxRegTest
  /-- MBOX_VERIFY_CHECKSUM (R307): the mailbox opcode VERIFY_CHECKSUM. -/
  | mboxVerifyChecksum
  /-- MBOX_ABOUT_FIRMWARE (R312): the mailbox opcode ABOUT_FIRMWARE. -/
  | mboxAboutFirmware
  /-- MBOX_INIT_REQ_QUEUE (R314): the mailbox opcode INIT_REQ_QUEUE. -/
  | mboxInitReqQueue
  /-- MBOX_INIT_RES_QUEUE (R315): the mailbox opcode INIT_RES_QUEUE. -/
  | mboxInitResQueue
  /-- MBOX_EXECUTE_IOCB (R319): the mailbox opcode EXECUTE_IOCB. -/
  | mboxExecuteIocb
  /-- MBOX_WAKE_UP (R332): the mailbox opcode WAKE_UP. -/
  | mboxWakeUp
  /-- MBOX_STOP_FIRMWARE (R333): the mailbox opcode STOP_FIRMWARE. -/
  | mboxStopFirmware
  /-- MBOX_ABORT (R321): the mailbox opcode ABORT. -/
  | mboxAbort
  /-- MBOX_ABORT_DEVICE (R322): the mailbox opcode ABORT_DEVICE. -/
  | mboxAbortDevice
  /-- MBOX_ABORT_TARGET (R323): the mailbox opcode ABORT_TARGET. -/
  | mboxAbortTarget
  /-- MBOX_BUS_RESET (R325): the mailbox opcode BUS_RESET. -/
  | mboxBusReset
  /-- MBOX_STOP_QUEUE (R326): the mailbox opcode STOP_QUEUE. -/
  | mboxStopQueue
  /-- MBOX_START_QUEUE (R327): the mailbox opcode START_QUEUE. -/
  | mboxStartQueue
  /-- MBOX_SINGLE_STEP_QUEUE (R328): the mailbox opcode SINGLE_STEP_QUEUE. -/
  | mboxSingleStepQueue
  /-- MBOX_ABORT_QUEUE (R329): the mailbox opcode ABORT_QUEUE. -/
  | mboxAbortQueue
  /-- MBOX_GET_DEV_QUEUE_STATUS (R330): the mailbox opcode GET_DEV_QUEUE_STATUS. -/
  | mboxGetDevQueueStatus
  /-- MBOX_GET_FIRMWARE_STATUS (R331): the mailbox opcode GET_FIRMWARE_STATUS. -/
  | mboxGetFirmwareStatus
  /-- MBOX_GET_INIT_SCSI_ID (R350): the mailbox opcode GET_INIT_SCSI_ID. -/
  | mboxGetInitScsiId
  /-- MBOX_GET_SELECT_TIMEOUT (R351): the mailbox opcode GET_SELECT_TIMEOUT. -/
  | mboxGetSelectTimeout
  /-- MBOX_GET_RETRY_COUNT (R352): the mailbox opcode GET_RETRY_COUNT. -/
  | mboxGetRetryCount
  /-- MBOX_GET_TAG_AGE_LIMIT (R353): the mailbox opcode GET_TAG_AGE_LIMIT. -/
  | mboxGetTagAgeLimit
  /-- MBOX_GET_CLOCK_RATE (R354): the mailbox opcode GET_CLOCK_RATE. -/
  | mboxGetClockRate
  /-- MBOX_GET_ACT_NEG_STATE (R355): the mailbox opcode GET_ACT_NEG_STATE. -/
  | mboxGetActNegState
  /-- MBOX_GET_ASYNC_DATA_SETUP_TIME (R356): the mailbox opcode GET_ASYNC_DATA_SETUP_TIME. -/
  | mboxGetAsyncDataSetupTime
  /-- MBOX_GET_PCI_PARAMS (R357): the mailbox opcode GET_PCI_PARAMS. -/
  | mboxGetPciParams
  /-- MBOX_GET_TARGET_PARAMS (R358): the mailbox opcode GET_TARGET_PARAMS. -/
  | mboxGetTargetParams
  /-- MBOX_GET_DEV_QUEUE_PARAMS (R359): the mailbox opcode GET_DEV_QUEUE_PARAMS. -/
  | mboxGetDevQueueParams
  /-- MBOX_GET_RESET_DELAY_PARAMS (R360): the mailbox opcode GET_RESET_DELAY_PARAMS. -/
  | mboxGetResetDelayParams
  /-- MBOX_SET_INIT_SCSI_ID (R361): the mailbox opcode SET_INIT_SCSI_ID. -/
  | mboxSetInitScsiId
  /-- MBOX_SET_SELECT_TIMEOUT (R362): the mailbox opcode SET_SELECT_TIMEOUT. -/
  | mboxSetSelectTimeout
  /-- MBOX_SET_RETRY_COUNT (R363): the mailbox opcode SET_RETRY_COUNT. -/
  | mboxSetRetryCount
  /-- MBOX_SET_TAG_AGE_LIMIT (R364): the mailbox opcode SET_TAG_AGE_LIMIT. -/
  | mboxSetTagAgeLimit
  /-- MBOX_SET_CLOCK_RATE (R365): the mailbox opcode SET_CLOCK_RATE. -/
  | mboxSetClockRate
  /-- MBOX_SET_ACT_NEG_STATE (R366): the mailbox opcode SET_ACT_NEG_STATE. -/
  | mboxSetActNegState
  /-- MBOX_SET_ASYNC_DATA_SETUP_TIME (R367): the mailbox opcode SET_ASYNC_DATA_SETUP_TIME. -/
  | mboxSetAsyncDataSetupTime
  /-- MBOX_SET_PCI_PARAMS (R368): the mailbox opcode SET_PCI_PARAMS. -/
  | mboxSetPciParams
  /-- MBOX_SET_TARGET_PARAMS (R369): the mailbox opcode SET_TARGET_PARAMS. -/
  | mboxSetTargetParams
  /-- MBOX_SET_DEV_QUEUE_PARAMS (R370): the mailbox opcode SET_DEV_QUEUE_PARAMS. -/
  | mboxSetDevQueueParams
  /-- MBOX_SET_RESET_DELAY_PARAMS (R371): the mailbox opcode SET_RESET_DELAY_PARAMS. -/
  | mboxSetResetDelayParams
  /-- MBOX_RETURN_BIOS_BLOCK_ADDR (R335): the mailbox opcode RETURN_BIOS_BLOCK_ADDR. -/
  | mboxReturnBiosBlockAddr
  /-- MBOX_WRITE_FOUR_RAM_WORDS (R306): the mailbox opcode WRITE_FOUR_RAM_WORDS. -/
  | mboxWriteFourRamWords
  /-- MBOX_EXECUTE_BIOS_IOCB (R340): the mailbox opcode EXECUTE_BIOS_IOCB. -/
  | mboxExecuteBiosIocb
  /-- MBOX_SET_FIRMWARE_FEATURES (R342): the mailbox opcode SET_FIRMWARE_FEATURES. -/
  | mboxSetFirmwareFeatures
  /-- MBOX_GET_FIRMWARE_FEATURES (R343): the mailbox opcode GET_FIRMWARE_FEATURES. -/
  | mboxGetFirmwareFeatures
  /-- MBOX_LOAD_RAM_A64 (R309): the mailbox opcode LOAD_RAM_A64. -/
  | mboxLoadRamA64
  /-- MBOX_DUMP_RAM_A64 (R310): the mailbox opcode DUMP_RAM_A64. -/
  | mboxDumpRamA64
  /-- MBOX_INIT_REQ_QUEUE_A64 (R316): the mailbox opcode INIT_REQ_QUEUE_A64. -/
  | mboxInitReqQueueA64
  /-- MBOX_INIT_RES_QUEUE_A64 (R317): the mailbox opcode INIT_RES_QUEUE_A64. -/
  | mboxInitResQueueA64
  /-- MBOX_EXECUTE_IOCB_A64 (R334): the mailbox opcode EXECUTE_IOCB_A64. -/
  | mboxExecuteIocbA64
  /-- MBOX_READ_FOUR_RAM_WORDS (R308): the mailbox opcode READ_FOUR_RAM_WORDS. -/
  | mboxReadFourRamWords
  /-- MBOX_INVALID (R380): a mailbox command whose opcode `op` is no `OP_X`. -/
  | mboxInvalid (op : Word)
  -- IOCBs
  /-- IOCB_CMD (R405): a descriptor `b` from `o`, of the entry type ET_CMD. -/
  | iocbCmd (o : Origin) (b : List Byte)
  /-- IOCB_CONT (R425): a descriptor `b` from `o`, of the entry type ET_CONT. -/
  | iocbCont (o : Origin) (b : List Byte)
  /-- IOCB_RESP (R441): a descriptor `b` from `o`, of the entry type ET_RESP. -/
  | iocbResp (o : Origin) (b : List Byte)
  /-- IOCB_MARKER (R412): a descriptor `b` from `o`, of the entry type ET_MARKER. -/
  | iocbMarker (o : Origin) (b : List Byte)
  /-- IOCB_CMD64 (R405): a descriptor `b` from `o`, of the entry type ET_CMD64. -/
  | iocbCmd64 (o : Origin) (b : List Byte)
  /-- IOCB_CONT64 (R425): a descriptor `b` from `o`, of the entry type ET_CONT64. -/
  | iocbCont64 (o : Origin) (b : List Byte)
  /-- IOCB_UNKNOWN (R411): a descriptor `b` from `o`, of the entry type of no other row. -/
  | iocbUnknown (o : Origin) (b : List Byte)
  -- Flash bus cycles: the address is the one FLASH_ADDR gives (R131)
  /-- FLASH_UNLOCK_AA (R502): the write cycle of the byte 0xAA. -/
  | flashUnlockAa
  /-- FLASH_UNLOCK_55 (R503): the write cycle of the byte 0x55. -/
  | flashUnlock55
  /-- FLASH_AUTOSELECT (R504): the write cycle of the byte 0x90. -/
  | flashAutoselect
  /-- FLASH_PROGRAM (R504): the write cycle of the byte 0xA0. -/
  | flashProgram
  /-- FLASH_ERASE_SETUP (R504): the write cycle of the byte 0x80. -/
  | flashEraseSetup
  /-- FLASH_CHIP_ERASE (R507): the write cycle of the byte 0x10. -/
  | flashChipErase
  /-- FLASH_BLOCK_ERASE (R507): the write cycle of the byte 0x30. -/
  | flashBlockErase
  /-- FLASH_READ_ARRAY (R501): the write cycle of the byte 0xF0. -/
  | flashReadArray
  /-- FLASH_PROGRAM_DATA (R512): a write cycle of the byte `d`: program data in `ProgramSetup`, and otherwise a byte that is no command. -/
  | flashProgramData (d : Byte)
  /-- FLASH_READ (R510): a read cycle. -/
  | flashRead
deriving DecidableEq, Repr

end Sys2Proof
end

