-- ==== Sys2Proof/Machine/Encoding.lean ====
section
/-! DEFINITION. The encoding tables of spec/30_encoding.md: which register an offset names (R120 to R129, R203), which
opcode a mailbox command has (R135), which bytes start a descriptor (R141) or are flash commands (R161). -/

namespace Sys2Proof

/-! ### Registers -/

/-- The fixed registers whose offsets have a candidate (R121, R129). -/
def candidateRegs : List (Word × Reg) :=
  [(Param.offIdLo, .idLo), (Param.offIdHi, .idHi), (Param.offConf0, .conf0), (Param.offConf1, .conf1),
   (Param.offIcr, .icr), (Param.offIsr, .isr), (Param.offSema, .sema), (Param.offNvram, .nvram),
   (Param.offFlashData, .flashData), (Param.offFlashAddr, .flashAddr)]
  ++ (List.finRange 8).map fun (i : Fin 8) => (Param.offMbox + 2 * BitVec.ofNat 16 i.val, .mbox i)

/-- The fixed registers and their offsets (R121, R129). -/
def fixedRegs (n : OpenNumbers) : List (Word × Reg) := candidateRegs ++ [(n.pioPort, .pioPort)]

/-- The registers of the RISC bank and their sub-offsets (R127). -/
def riscRegs : List (Word × Reg) :=
  [(Param.soffPsr, .riscPsr), (Param.soffPc, .riscPc), (Param.soffMtr, .riscMtr), (Param.soffHccr, .hccr),
   (Param.soffGpioData, .gpioData), (Param.soffGpioEnable, .gpioEnable)]

/-- The sub-offset of a DMA register of channel `c` (R127). -/
def dmaSub (soff : Word) (c : Fin 2) : Word := soff + Param.dmaChStride * BitVec.ofNat 16 c.val

/-- The registers of DMA channel `c` and their sub-offsets (R127). -/
def dmaChannelRegs (c : Fin 2) : List (Word × Reg) :=
  [(dmaSub Param.soffDmaConf c, .dmaConf c), (dmaSub Param.soffDmaControl c, .dmaControl c),
   (dmaSub Param.soffDmaStatus c, .dmaStatus c), (dmaSub Param.soffDmaFifo c, .dmaFifo c)]
  ++ (List.finRange 4).map fun (j : Fin 4) => (dmaSub Param.soffDmaAddr c + 2 * BitVec.ofNat 16 j.val, .dmaAddr c j)

/-- The registers of a bank and their sub-offsets (R127). -/
def bankRegs (n : OpenNumbers) : Bank → List (Word × Reg)
  | .risc => riscRegs
  | .sxp b => [(n.pinsDiff, .pinsDiff b)]
  | .dma => dmaChannelRegs 0 ++ dmaChannelRegs 1

/-- The register that a table gives for an offset. -/
def lookupReg (t : List (Word × Reg)) (off : Word) : Option Reg := (t.find? fun e => e.1 == off).map (·.2)

/-- The bank that `BANK_SEL` puts in the switchable window (R128, R203). -/
def bankSel (c : DecodeCtx) : Bank :=
  match c.gen with
  | .old => if c.conf1.getLsbD Param.conf1SxpSelBit then .sxp 0 else .risc
  | .new =>
    match (c.conf1.extractLsb' Param.bankLo 2).toNat with
    | 0 => .risc
    | 1 => .sxp 0
    | 2 => .sxp 1
    | _ => .dma

/-- The bits of CONF1 that hold `BANK_SEL` (R128). -/
def bankSelMask : Gen → Word
  | .old => 1 <<< Param.conf1SxpSelBit
  | .new => 3 <<< Param.bankLo

/-- Whether `off` is in the window of `size` bytes from `base`. -/
def inWindow (base : Word) (size : Nat) (off : Word) : Bool :=
  base.toNat ≤ off.toNat && off.toNat < base.toNat + size

/-- `off` is in a bank window of the generation (R122, R123). -/
def inBankWindow (g : Gen) (off : Word) : Bool :=
  g == .old && inWindow Param.dmaWinBase Param.dmaWinSize off || inWindow Param.bankWinBase Param.bankWinSize off

/-- The bank and the sub-offset that an offset inside a window reaches; `none` outside every window (R122, R123,
R203). -/
def bankOf (c : DecodeCtx) (off : Word) : Option (Bank × Word) :=
  if c.gen = .old && inWindow Param.dmaWinBase Param.dmaWinSize off then some (.dma, off - Param.dmaWinBase)
  else if inWindow Param.bankWinBase Param.bankWinSize off then some (bankSel c, off - Param.bankWinBase)
  else none

/-- The register that an even offset names (R120 steps 2 to 4): a fixed register, else a register of the bank that the
window reaches, else none. -/
def resolve (c : DecodeCtx) (off : Word) : Option Reg :=
  match lookupReg (fixedRegs c.nums) off with
  | some r => some r
  | none =>
    match bankOf c off with
    | some (bank, sub) => lookupReg (bankRegs c.nums bank) sub
    | none => none

/-- An offset is odd: its bit 0 is 1 (R120 step 1). -/
def oddOffset (off : Word) : Bool := off.getLsbD 0

/-- The base of the window through which the DMA bank is reached (R122, R123). -/
def dmaBase : Gen → Word
  | .old => Param.dmaWinBase
  | .new => Param.bankWinBase

/-- The offset of a register (R121, R127, R129). -/
def regOffset (g : Gen) (n : OpenNumbers) : Reg → Word
  | .idLo => Param.offIdLo
  | .idHi => Param.offIdHi
  | .conf0 => Param.offConf0
  | .conf1 => Param.offConf1
  | .icr => Param.offIcr
  | .isr => Param.offIsr
  | .sema => Param.offSema
  | .nvram => Param.offNvram
  | .flashData => Param.offFlashData
  | .flashAddr => Param.offFlashAddr
  | .pioPort => n.pioPort
  | .mbox i => Param.offMbox + 2 * BitVec.ofNat 16 i.val
  | .riscPsr => Param.bankWinBase + Param.soffPsr
  | .riscPc => Param.bankWinBase + Param.soffPc
  | .riscMtr => Param.bankWinBase + Param.soffMtr
  | .hccr => Param.bankWinBase + Param.soffHccr
  | .gpioData => Param.bankWinBase + Param.soffGpioData
  | .gpioEnable => Param.bankWinBase + Param.soffGpioEnable
  | .pinsDiff _ => Param.bankWinBase + n.pinsDiff
  | .dmaConf c => dmaBase g + dmaSub Param.soffDmaConf c
  | .dmaControl c => dmaBase g + dmaSub Param.soffDmaControl c
  | .dmaStatus c => dmaBase g + dmaSub Param.soffDmaStatus c
  | .dmaFifo c => dmaBase g + dmaSub Param.soffDmaFifo c
  | .dmaAddr c j => dmaBase g + dmaSub Param.soffDmaAddr c + 2 * BitVec.ofNat 16 j.val

/-! ### HCCR commands -/

/-- The HCCR commands by their codes (R126). -/
def hccrCommands : List (BitVec 4 × (BitVec 12 → Instr)) :=
  [(Param.hccrNop, .hccrNop), (Param.hccrResetRisc, .hccrResetRisc), (Param.hccrPauseRisc, .hccrPauseRisc),
   (Param.hccrReleaseRisc, .hccrReleaseRisc), (Param.hccrSingleStep, .hccrSingleStep),
   (Param.hccrSetHostInt, .hccrSetHostInt), (Param.hccrClearHostInt, .hccrClearHostInt),
   (Param.hccrClearRiscInt, .hccrClearRiscInt)]

/-! ### Mailbox opcodes -/

/-- The opcodes that have a candidate (R135). -/
def candidateOps : List (Word × Instr) :=
  [(Param.opNoOp, .mboxNoOp),
   (Param.opLoadRam, .mboxLoadRam),
   (Param.opExecFirmware, .mboxExecFirmware),
   (Param.opDumpRam, .mboxDumpRam),
   (Param.opWriteRamWord, .mboxWriteRamWord),
   (Param.opReadRamWord, .mboxReadRamWord),
   (Param.opMailboxRegTest, .mboxMailboxRegTest),
   (Param.opVerifyChecksum, .mboxVerifyChecksum),
   (Param.opAboutFirmware, .mboxAboutFirmware),
   (Param.opInitReqQueue, .mboxInitReqQueue),
   (Param.opInitResQueue, .mboxInitResQueue),
   (Param.opExecuteIocb, .mboxExecuteIocb),
   (Param.opWakeUp, .mboxWakeUp),
   (Param.opStopFirmware, .mboxStopFirmware),
   (Param.opAbort, .mboxAbort),
   (Param.opAbortDevice, .mboxAbortDevice),
   (Param.opAbortTarget, .mboxAbortTarget),
   (Param.opBusReset, .mboxBusReset),
   (Param.opStopQueue, .mboxStopQueue),
   (Param.opStartQueue, .mboxStartQueue),
   (Param.opSingleStepQueue, .mboxSingleStepQueue),
   (Param.opAbortQueue, .mboxAbortQueue),
   (Param.opGetDevQueueStatus, .mboxGetDevQueueStatus),
   (Param.opGetFirmwareStatus, .mboxGetFirmwareStatus),
   (Param.opGetInitScsiId, .mboxGetInitScsiId),
   (Param.opGetSelectTimeout, .mboxGetSelectTimeout),
   (Param.opGetRetryCount, .mboxGetRetryCount),
   (Param.opGetTagAgeLimit, .mboxGetTagAgeLimit),
   (Param.opGetClockRate, .mboxGetClockRate),
   (Param.opGetActNegState, .mboxGetActNegState),
   (Param.opGetAsyncDataSetupTime, .mboxGetAsyncDataSetupTime),
   (Param.opGetPciParams, .mboxGetPciParams),
   (Param.opGetTargetParams, .mboxGetTargetParams),
   (Param.opGetDevQueueParams, .mboxGetDevQueueParams),
   (Param.opGetResetDelayParams, .mboxGetResetDelayParams),
   (Param.opSetInitScsiId, .mboxSetInitScsiId),
   (Param.opSetSelectTimeout, .mboxSetSelectTimeout),
   (Param.opSetRetryCount, .mboxSetRetryCount),
   (Param.opSetTagAgeLimit, .mboxSetTagAgeLimit),
   (Param.opSetClockRate, .mboxSetClockRate),
   (Param.opSetActNegState, .mboxSetActNegState),
   (Param.opSetAsyncDataSetupTime, .mboxSetAsyncDataSetupTime),
   (Param.opSetPciParams, .mboxSetPciParams),
   (Param.opSetTargetParams, .mboxSetTargetParams),
   (Param.opSetDevQueueParams, .mboxSetDevQueueParams),
   (Param.opSetResetDelayParams, .mboxSetResetDelayParams),
   (Param.opReturnBiosBlockAddr, .mboxReturnBiosBlockAddr),
   (Param.opWriteFourRamWords, .mboxWriteFourRamWords),
   (Param.opExecuteBiosIocb, .mboxExecuteBiosIocb),
   (Param.opSetFirmwareFeatures, .mboxSetFirmwareFeatures),
   (Param.opGetFirmwareFeatures, .mboxGetFirmwareFeatures),
   (Param.opLoadRamA64, .mboxLoadRamA64),
   (Param.opDumpRamA64, .mboxDumpRamA64),
   (Param.opInitReqQueueA64, .mboxInitReqQueueA64),
   (Param.opInitResQueueA64, .mboxInitResQueueA64),
   (Param.opExecuteIocbA64, .mboxExecuteIocbA64)]

/-- The opcode map (R135). -/
def mailboxOps (n : OpenNumbers) : List (Word × Instr) := candidateOps ++ [(n.readFour, .mboxReadFourRamWords)]

/-! ### The numbers without a candidate -/

/-- The fixed offsets are even, distinct, and outside every bank window of the generation (R121). -/
def fixedOffsetsLegal (g : Gen) (n : OpenNumbers) : Bool :=
  let offs := (fixedRegs n).map (·.1)
  (offs.all fun off => !oddOffset off && !inBankWindow g off) && decide offs.Nodup

/-- The parameters are well-formed: the fixed offsets by R121; the one sub-offset of the SXP bank even and inside the window
(R120, R127), and no two opcodes the same (R132), which the spec does not say in so many words (log 37). -/
def OpenNumbers.legal (g : Gen) (n : OpenNumbers) : Bool :=
  fixedOffsetsLegal g n && !oddOffset n.pinsDiff && n.pinsDiff.toNat < Param.bankWinSize
    && candidateOps.all fun e => e.1 != n.readFour

/-! ### Descriptors -/

/-- The entry types that a row of the table names (R141). -/
def entryTypes : List Byte :=
  [Param.etCmd, Param.etCont, Param.etResp, Param.etMarker, Param.etCmd64, Param.etCont64]

/-- Byte 0 of a descriptor: its entry type (R140). -/
def entryType (b : List Byte) : Byte := b.getD 0 0

/-! ### Flash commands -/

/-- The flash command bytes and their rows (R161). -/
def flashCommands : List (Byte × Instr) :=
  [(Param.cmdUnlock1, .flashUnlockAa), (Param.cmdUnlock2, .flashUnlock55), (Param.cmdAutoselect, .flashAutoselect),
   (Param.cmdProgram, .flashProgram), (Param.cmdEraseSetup, .flashEraseSetup),
   (Param.cmdChipErase, .flashChipErase), (Param.cmdBlockErase, .flashBlockErase),
   (Param.cmdReadArray, .flashReadArray)]

end Sys2Proof
end

