-- ==== Sys2Proof/WellFormed.lean ====
section
/-! DEFINITION. Which terms of `Instr` stand for an encoding of spec/30_encoding.md: every check that decoding relies
on. -/

namespace Sys2Proof

/-- The DMA bank is reachable: through its fixed window in GEN_OLD, by `BANK_SEL` in GEN_NEW (R122, R123). -/
def dmaReachable (c : DecodeCtx) : Bool := c.gen == .old || bankSel c == .dma

/-- The descriptor is 64 bytes (R140) of entry type `et`. -/
def descriptorOf (et : Byte) (b : List Byte) : Bool := b.length == Param.iocbSize && entryType b == et

/-- The instruction is what its own encoding says, in the context `c`. -/
def Instr.wf (c : DecodeCtx) : Instr → Bool
  -- an odd offset (R200, R201)
  | .readOdd off | .writeOdd off _ => oddOffset off
  -- an even offset that names no register (R202)
  | .accessUnmapped off _ => !oddOffset off && (resolve c off).isNone
  -- a fixed register: reached in every context (R120 step 2)
  | .readIdLo | .writeIdLo _ | .readIdHi | .writeIdHi _ | .readConf0 | .writeConf0 _ | .readConf1
  | .writeConf1 _ | .readIcr | .writeIcr _ | .readIsr | .writeIsr _ | .readSema | .writeSema _ | .readNvram
  | .writeNvram _ | .readFlashData | .writeFlashData _ | .readFlashAddr | .writeFlashAddr _ | .readPioPort
  | .writePioPort _ | .readMbox0 | .writeMbox0 _ | .readMbox1 | .writeMbox1 _ | .readMbox2 | .writeMbox2 _
  | .readMbox3 | .writeMbox3 _ | .readMbox4 | .writeMbox4 _ | .readMbox5 | .writeMbox5 _ | .readMbox6
  | .writeMbox6 _ | .readMbox7 | .writeMbox7 _ => true
  -- a register of the RISC bank: BANK_SEL selects it (R203)
  | .readRiscPsr | .writeRiscPsr _ | .readRiscPc | .writeRiscPc _ | .readRiscMtr | .writeRiscMtr _
  | .readGpioData | .writeGpioData _ | .readGpioEnable | .writeGpioEnable _ | .readHccr =>
    bankSel c == .risc
  -- the SXP bank selected is `b` (R203)
  | .readSxpPinsDiff b _ => bankSel c == .sxp b
  -- a register of the DMA bank (R203)
  | .accessDmaConf0 _ | .accessDmaControl0 _ | .accessDmaStatus0 _ | .accessDmaFifo0 _ | .accessDmaAddr00 _
  | .accessDmaAddr01 _ | .accessDmaAddr02 _ | .accessDmaAddr03 _ | .accessDmaConf1 _ | .accessDmaControl1 _
  | .accessDmaStatus1 _ | .accessDmaFifo1 _ | .accessDmaAddr10 _ | .accessDmaAddr11 _ | .accessDmaAddr12 _
  | .accessDmaAddr13 _ => dmaReachable c
  -- an HCCR command: HCCR is in the RISC bank; an undefined code is none of theirs (R126, R203)
  | .hccrNop _ | .hccrResetRisc _ | .hccrPauseRisc _ | .hccrReleaseRisc _ | .hccrSingleStep _
  | .hccrSetHostInt _ | .hccrClearHostInt _ | .hccrClearRiscInt _ => bankSel c == .risc
  | .hccrUndefined cmd _ => bankSel c == .risc && hccrCommands.all fun e => e.1 != cmd
  -- a mailbox opcode (R135)
  | .mboxNoOp | .mboxLoadRam | .mboxExecFirmware | .mboxDumpRam | .mboxWriteRamWord | .mboxReadRamWord
  | .mboxMailboxRegTest | .mboxVerifyChecksum | .mboxAboutFirmware | .mboxInitReqQueue | .mboxInitResQueue
  | .mboxExecuteIocb | .mboxWakeUp | .mboxStopFirmware | .mboxAbort | .mboxAbortDevice | .mboxAbortTarget
  | .mboxBusReset | .mboxStopQueue | .mboxStartQueue | .mboxSingleStepQueue | .mboxAbortQueue
  | .mboxGetDevQueueStatus | .mboxGetFirmwareStatus | .mboxGetInitScsiId | .mboxGetSelectTimeout
  | .mboxGetRetryCount | .mboxGetTagAgeLimit | .mboxGetClockRate | .mboxGetActNegState
  | .mboxGetAsyncDataSetupTime | .mboxGetPciParams | .mboxGetTargetParams | .mboxGetDevQueueParams
  | .mboxGetResetDelayParams | .mboxSetInitScsiId | .mboxSetSelectTimeout | .mboxSetRetryCount
  | .mboxSetTagAgeLimit | .mboxSetClockRate | .mboxSetActNegState | .mboxSetAsyncDataSetupTime
  | .mboxSetPciParams | .mboxSetTargetParams | .mboxSetDevQueueParams | .mboxSetResetDelayParams
  | .mboxReturnBiosBlockAddr | .mboxWriteFourRamWords | .mboxExecuteBiosIocb | .mboxSetFirmwareFeatures
  | .mboxGetFirmwareFeatures | .mboxLoadRamA64 | .mboxDumpRamA64 | .mboxInitReqQueueA64 | .mboxInitResQueueA64
  | .mboxExecuteIocbA64 | .mboxReadFourRamWords => true
  | .mboxInvalid op => (mailboxOps c.nums).all fun e => e.1 != op
  -- a descriptor of its type (R141)
  | .iocbCmd _ b => descriptorOf Param.etCmd b
  | .iocbCont _ b => descriptorOf Param.etCont b
  | .iocbResp _ b => descriptorOf Param.etResp b
  | .iocbMarker _ b => descriptorOf Param.etMarker b
  | .iocbCmd64 _ b => descriptorOf Param.etCmd64 b
  | .iocbCont64 _ b => descriptorOf Param.etCont64 b
  | .iocbUnknown _ b => b.length == Param.iocbSize && !entryTypes.contains (entryType b)
  -- a command byte: not while the flash waits for program data (R500)
  | .flashUnlockAa | .flashUnlock55 | .flashAutoselect | .flashProgram | .flashEraseSetup | .flashChipErase
  | .flashBlockErase | .flashReadArray => !c.programSetup
  -- any byte while the flash waits for program data; else a byte that is no command
  | .flashProgramData d => c.programSetup || flashCommands.all fun e => e.1 != d
  | .flashRead => true

end Sys2Proof
end

