-- ==== Sys2Proof/Decode.lean ====
section
/-! DEFINITION. Decoding of the four kinds of encoded request (spec/30_encoding.md), total, and after it the encoder.
Register accesses are decoded by offset (R120), mailbox commands by opcode (R132), descriptors by entry type (R141),
flash bus cycles by byte and mode (R160, R500). -/

namespace Sys2Proof

/-- Why a request is refused: a descriptor that is not 64 bytes (R140). -/
inductive DecodeReject where
  | descriptorLength (n : Nat)
deriving DecidableEq, Repr

/-- A command written to HCCR: `v[15:12]`, with `v[11:0]` ignored (R126, R221). -/
def hccrInstr (v : Word) : Instr :=
  let cmd := v.extractLsb' Param.hccrCmdLo 4
  let low := v.extractLsb' 0 12
  match hccrCommands.find? fun e => e.1 == cmd with
  | some e => e.2 low
  | none => .hccrUndefined cmd low

/-- A read of mailbox register `i` (R211). -/
def readMboxInstr (i : Fin 8) : Instr :=
  match i.val with
  | 0 => .readMbox0
  | 1 => .readMbox1
  | 2 => .readMbox2
  | 3 => .readMbox3
  | 4 => .readMbox4
  | 5 => .readMbox5
  | 6 => .readMbox6
  | _ => .readMbox7

/-- A write of mailbox register `i` (R212). -/
def writeMboxInstr (i : Fin 8) (v : Word) : Instr :=
  match i.val with
  | 0 => .writeMbox0 v
  | 1 => .writeMbox1 v
  | 2 => .writeMbox2 v
  | 3 => .writeMbox3 v
  | 4 => .writeMbox4 v
  | 5 => .writeMbox5 v
  | 6 => .writeMbox6 v
  | _ => .writeMbox7 v

/-- An access to a DMA address word (R231). -/
def dmaAddrInstr (c : Fin 2) (j : Fin 4) (w : Option Word) : Instr :=
  match c.val, j.val with
  | 0, 0 => .accessDmaAddr00 w
  | 0, 1 => .accessDmaAddr01 w
  | 0, 2 => .accessDmaAddr02 w
  | 0, _ => .accessDmaAddr03 w
  | _, 0 => .accessDmaAddr10 w
  | _, 1 => .accessDmaAddr11 w
  | _, 2 => .accessDmaAddr12 w
  | _, _ => .accessDmaAddr13 w

/-- A read of a register: its row of the table. -/
def readInstr : Reg → Instr
  | .idLo => .readIdLo
  | .idHi => .readIdHi
  | .conf0 => .readConf0
  | .conf1 => .readConf1
  | .icr => .readIcr
  | .isr => .readIsr
  | .sema => .readSema
  | .nvram => .readNvram
  | .flashData => .readFlashData
  | .flashAddr => .readFlashAddr
  | .pioPort => .readPioPort
  | .mbox i => readMboxInstr i
  | .riscPsr => .readRiscPsr
  | .riscPc => .readRiscPc
  | .riscMtr => .readRiscMtr
  | .gpioData => .readGpioData
  | .gpioEnable => .readGpioEnable
  | .hccr => .readHccr
  | .pinsDiff b => .readSxpPinsDiff b none
  | .dmaConf c => if c = 0 then .accessDmaConf0 none else .accessDmaConf1 none
  | .dmaControl c => if c = 0 then .accessDmaControl0 none else .accessDmaControl1 none
  | .dmaStatus c => if c = 0 then .accessDmaStatus0 none else .accessDmaStatus1 none
  | .dmaFifo c => if c = 0 then .accessDmaFifo0 none else .accessDmaFifo1 none
  | .dmaAddr c j => dmaAddrInstr c j none

/-- A write of `v` to a register: its row of the table. -/
def writeInstr (v : Word) : Reg → Instr
  | .idLo => .writeIdLo v
  | .idHi => .writeIdHi v
  | .conf0 => .writeConf0 v
  | .conf1 => .writeConf1 v
  | .icr => .writeIcr v
  | .isr => .writeIsr v
  | .sema => .writeSema v
  | .nvram => .writeNvram v
  | .flashData => .writeFlashData v
  | .flashAddr => .writeFlashAddr v
  | .pioPort => .writePioPort v
  | .mbox i => writeMboxInstr i v
  | .riscPsr => .writeRiscPsr v
  | .riscPc => .writeRiscPc v
  | .riscMtr => .writeRiscMtr v
  | .gpioData => .writeGpioData v
  | .gpioEnable => .writeGpioEnable v
  | .hccr => hccrInstr v
  | .pinsDiff b => .readSxpPinsDiff b (some v)
  | .dmaConf c => if c = 0 then .accessDmaConf0 (some v) else .accessDmaConf1 (some v)
  | .dmaControl c => if c = 0 then .accessDmaControl0 (some v) else .accessDmaControl1 (some v)
  | .dmaStatus c => if c = 0 then .accessDmaStatus0 (some v) else .accessDmaStatus1 (some v)
  | .dmaFifo c => if c = 0 then .accessDmaFifo0 (some v) else .accessDmaFifo1 (some v)
  | .dmaAddr c j => dmaAddrInstr c j (some v)

/-- A mailbox command, by its whole opcode word (R132, R300, R380). -/
def mailboxInstr (n : OpenNumbers) (op : Word) : Instr :=
  match (mailboxOps n).find? fun e => e.1 == op with
  | some e => e.2
  | none => .mboxInvalid op

/-- A descriptor, by its entry type (R141). -/
def iocbInstr (o : Origin) (b : List Byte) : Instr :=
  if entryType b = Param.etCmd then .iocbCmd o b
  else if entryType b = Param.etCont then .iocbCont o b
  else if entryType b = Param.etResp then .iocbResp o b
  else if entryType b = Param.etMarker then .iocbMarker o b
  else if entryType b = Param.etCmd64 then .iocbCmd64 o b
  else if entryType b = Param.etCont64 then .iocbCont64 o b
  else .iocbUnknown o b

/-- A flash write cycle: program data while the flash waits for it, else a command byte, else a byte that is none
(R500 step 1, R161). -/
def flashInstr (programSetup : Bool) (d : Byte) : Instr :=
  if programSetup then .flashProgramData d
  else
    match flashCommands.find? fun e => e.1 == d with
    | some e => e.2
    | none => .flashProgramData d

/-- The instruction that a request encodes, or the reason it encodes none. -/
def decode (c : DecodeCtx) : Request → Except DecodeReject Instr
  | .regRead off =>
    .ok (if oddOffset off then .readOdd off
      else match resolve c off with
        | some r => readInstr r
        | none => .accessUnmapped off none)
  | .regWrite off v =>
    .ok (if oddOffset off then .writeOdd off v
      else match resolve c off with
        | some r => writeInstr v r
        | none => .accessUnmapped off (some v))
  | .mailbox op => .ok (mailboxInstr c.nums op)
  | .iocb o b => if b.length = Param.iocbSize then .ok (iocbInstr o b) else .error (.descriptorLength b.length)
  | .flashWrite d => .ok (flashInstr c.programSetup d)
  | .flashRead => .ok .flashRead

/-! ### The encoder -/

/-- A read or a write access at an offset. -/
def encodeAccess (off : Word) : Option Word → Request
  | none => .regRead off
  | some v => .regWrite off v

/-- The request that encodes an instruction (the tables of spec/30_encoding.md). -/
def encode (c : DecodeCtx) : Instr → Request
  | .readOdd off => .regRead off
  | .writeOdd off v => .regWrite off v
  | .accessUnmapped off w => encodeAccess off w
  | .readIdLo => .regRead (regOffset c.gen c.nums .idLo)
  | .writeIdLo v => .regWrite (regOffset c.gen c.nums .idLo) v
  | .readIdHi => .regRead (regOffset c.gen c.nums .idHi)
  | .writeIdHi v => .regWrite (regOffset c.gen c.nums .idHi) v
  | .readConf0 => .regRead (regOffset c.gen c.nums .conf0)
  | .writeConf0 v => .regWrite (regOffset c.gen c.nums .conf0) v
  | .readConf1 => .regRead (regOffset c.gen c.nums .conf1)
  | .writeConf1 v => .regWrite (regOffset c.gen c.nums .conf1) v
  | .readIcr => .regRead (regOffset c.gen c.nums .icr)
  | .writeIcr v => .regWrite (regOffset c.gen c.nums .icr) v
  | .readIsr => .regRead (regOffset c.gen c.nums .isr)
  | .writeIsr v => .regWrite (regOffset c.gen c.nums .isr) v
  | .readSema => .regRead (regOffset c.gen c.nums .sema)
  | .writeSema v => .regWrite (regOffset c.gen c.nums .sema) v
  | .readNvram => .regRead (regOffset c.gen c.nums .nvram)
  | .writeNvram v => .regWrite (regOffset c.gen c.nums .nvram) v
  | .readFlashData => .regRead (regOffset c.gen c.nums .flashData)
  | .writeFlashData v => .regWrite (regOffset c.gen c.nums .flashData) v
  | .readFlashAddr => .regRead (regOffset c.gen c.nums .flashAddr)
  | .writeFlashAddr v => .regWrite (regOffset c.gen c.nums .flashAddr) v
  | .readPioPort => .regRead (regOffset c.gen c.nums .pioPort)
  | .writePioPort v => .regWrite (regOffset c.gen c.nums .pioPort) v
  | .readMbox0 => .regRead (regOffset c.gen c.nums (.mbox 0))
  | .writeMbox0 v => .regWrite (regOffset c.gen c.nums (.mbox 0)) v
  | .readMbox1 => .regRead (regOffset c.gen c.nums (.mbox 1))
  | .writeMbox1 v => .regWrite (regOffset c.gen c.nums (.mbox 1)) v
  | .readMbox2 => .regRead (regOffset c.gen c.nums (.mbox 2))
  | .writeMbox2 v => .regWrite (regOffset c.gen c.nums (.mbox 2)) v
  | .readMbox3 => .regRead (regOffset c.gen c.nums (.mbox 3))
  | .writeMbox3 v => .regWrite (regOffset c.gen c.nums (.mbox 3)) v
  | .readMbox4 => .regRead (regOffset c.gen c.nums (.mbox 4))
  | .writeMbox4 v => .regWrite (regOffset c.gen c.nums (.mbox 4)) v
  | .readMbox5 => .regRead (regOffset c.gen c.nums (.mbox 5))
  | .writeMbox5 v => .regWrite (regOffset c.gen c.nums (.mbox 5)) v
  | .readMbox6 => .regRead (regOffset c.gen c.nums (.mbox 6))
  | .writeMbox6 v => .regWrite (regOffset c.gen c.nums (.mbox 6)) v
  | .readMbox7 => .regRead (regOffset c.gen c.nums (.mbox 7))
  | .writeMbox7 v => .regWrite (regOffset c.gen c.nums (.mbox 7)) v
  | .readRiscPsr => .regRead (regOffset c.gen c.nums .riscPsr)
  | .writeRiscPsr v => .regWrite (regOffset c.gen c.nums .riscPsr) v
  | .readRiscPc => .regRead (regOffset c.gen c.nums .riscPc)
  | .writeRiscPc v => .regWrite (regOffset c.gen c.nums .riscPc) v
  | .readRiscMtr => .regRead (regOffset c.gen c.nums .riscMtr)
  | .writeRiscMtr v => .regWrite (regOffset c.gen c.nums .riscMtr) v
  | .readGpioData => .regRead (regOffset c.gen c.nums .gpioData)
  | .writeGpioData v => .regWrite (regOffset c.gen c.nums .gpioData) v
  | .readGpioEnable => .regRead (regOffset c.gen c.nums .gpioEnable)
  | .writeGpioEnable v => .regWrite (regOffset c.gen c.nums .gpioEnable) v
  | .readHccr => .regRead (regOffset c.gen c.nums .hccr)
  | .readSxpPinsDiff b w => encodeAccess (regOffset c.gen c.nums (.pinsDiff b)) w
  | .accessDmaConf0 w => encodeAccess (regOffset c.gen c.nums (.dmaConf 0)) w
  | .accessDmaControl0 w => encodeAccess (regOffset c.gen c.nums (.dmaControl 0)) w
  | .accessDmaStatus0 w => encodeAccess (regOffset c.gen c.nums (.dmaStatus 0)) w
  | .accessDmaFifo0 w => encodeAccess (regOffset c.gen c.nums (.dmaFifo 0)) w
  | .accessDmaAddr00 w => encodeAccess (regOffset c.gen c.nums (.dmaAddr 0 0)) w
  | .accessDmaAddr01 w => encodeAccess (regOffset c.gen c.nums (.dmaAddr 0 1)) w
  | .accessDmaAddr02 w => encodeAccess (regOffset c.gen c.nums (.dmaAddr 0 2)) w
  | .accessDmaAddr03 w => encodeAccess (regOffset c.gen c.nums (.dmaAddr 0 3)) w
  | .accessDmaConf1 w => encodeAccess (regOffset c.gen c.nums (.dmaConf 1)) w
  | .accessDmaControl1 w => encodeAccess (regOffset c.gen c.nums (.dmaControl 1)) w
  | .accessDmaStatus1 w => encodeAccess (regOffset c.gen c.nums (.dmaStatus 1)) w
  | .accessDmaFifo1 w => encodeAccess (regOffset c.gen c.nums (.dmaFifo 1)) w
  | .accessDmaAddr10 w => encodeAccess (regOffset c.gen c.nums (.dmaAddr 1 0)) w
  | .accessDmaAddr11 w => encodeAccess (regOffset c.gen c.nums (.dmaAddr 1 1)) w
  | .accessDmaAddr12 w => encodeAccess (regOffset c.gen c.nums (.dmaAddr 1 2)) w
  | .accessDmaAddr13 w => encodeAccess (regOffset c.gen c.nums (.dmaAddr 1 3)) w
  | .hccrNop low => .regWrite (regOffset c.gen c.nums .hccr) (Param.hccrNop ++ low)
  | .hccrResetRisc low => .regWrite (regOffset c.gen c.nums .hccr) (Param.hccrResetRisc ++ low)
  | .hccrPauseRisc low => .regWrite (regOffset c.gen c.nums .hccr) (Param.hccrPauseRisc ++ low)
  | .hccrReleaseRisc low => .regWrite (regOffset c.gen c.nums .hccr) (Param.hccrReleaseRisc ++ low)
  | .hccrSingleStep low => .regWrite (regOffset c.gen c.nums .hccr) (Param.hccrSingleStep ++ low)
  | .hccrSetHostInt low => .regWrite (regOffset c.gen c.nums .hccr) (Param.hccrSetHostInt ++ low)
  | .hccrClearHostInt low => .regWrite (regOffset c.gen c.nums .hccr) (Param.hccrClearHostInt ++ low)
  | .hccrClearRiscInt low => .regWrite (regOffset c.gen c.nums .hccr) (Param.hccrClearRiscInt ++ low)
  | .hccrUndefined cmd low => .regWrite (regOffset c.gen c.nums .hccr) (cmd ++ low)
  | .mboxNoOp => .mailbox Param.opNoOp
  | .mboxLoadRam => .mailbox Param.opLoadRam
  | .mboxExecFirmware => .mailbox Param.opExecFirmware
  | .mboxDumpRam => .mailbox Param.opDumpRam
  | .mboxWriteRamWord => .mailbox Param.opWriteRamWord
  | .mboxReadRamWord => .mailbox Param.opReadRamWord
  | .mboxMailboxRegTest => .mailbox Param.opMailboxRegTest
  | .mboxVerifyChecksum => .mailbox Param.opVerifyChecksum
  | .mboxAboutFirmware => .mailbox Param.opAboutFirmware
  | .mboxInitReqQueue => .mailbox Param.opInitReqQueue
  | .mboxInitResQueue => .mailbox Param.opInitResQueue
  | .mboxExecuteIocb => .mailbox Param.opExecuteIocb
  | .mboxWakeUp => .mailbox Param.opWakeUp
  | .mboxStopFirmware => .mailbox Param.opStopFirmware
  | .mboxAbort => .mailbox Param.opAbort
  | .mboxAbortDevice => .mailbox Param.opAbortDevice
  | .mboxAbortTarget => .mailbox Param.opAbortTarget
  | .mboxBusReset => .mailbox Param.opBusReset
  | .mboxStopQueue => .mailbox Param.opStopQueue
  | .mboxStartQueue => .mailbox Param.opStartQueue
  | .mboxSingleStepQueue => .mailbox Param.opSingleStepQueue
  | .mboxAbortQueue => .mailbox Param.opAbortQueue
  | .mboxGetDevQueueStatus => .mailbox Param.opGetDevQueueStatus
  | .mboxGetFirmwareStatus => .mailbox Param.opGetFirmwareStatus
  | .mboxGetInitScsiId => .mailbox Param.opGetInitScsiId
  | .mboxGetSelectTimeout => .mailbox Param.opGetSelectTimeout
  | .mboxGetRetryCount => .mailbox Param.opGetRetryCount
  | .mboxGetTagAgeLimit => .mailbox Param.opGetTagAgeLimit
  | .mboxGetClockRate => .mailbox Param.opGetClockRate
  | .mboxGetActNegState => .mailbox Param.opGetActNegState
  | .mboxGetAsyncDataSetupTime => .mailbox Param.opGetAsyncDataSetupTime
  | .mboxGetPciParams => .mailbox Param.opGetPciParams
  | .mboxGetTargetParams => .mailbox Param.opGetTargetParams
  | .mboxGetDevQueueParams => .mailbox Param.opGetDevQueueParams
  | .mboxGetResetDelayParams => .mailbox Param.opGetResetDelayParams
  | .mboxSetInitScsiId => .mailbox Param.opSetInitScsiId
  | .mboxSetSelectTimeout => .mailbox Param.opSetSelectTimeout
  | .mboxSetRetryCount => .mailbox Param.opSetRetryCount
  | .mboxSetTagAgeLimit => .mailbox Param.opSetTagAgeLimit
  | .mboxSetClockRate => .mailbox Param.opSetClockRate
  | .mboxSetActNegState => .mailbox Param.opSetActNegState
  | .mboxSetAsyncDataSetupTime => .mailbox Param.opSetAsyncDataSetupTime
  | .mboxSetPciParams => .mailbox Param.opSetPciParams
  | .mboxSetTargetParams => .mailbox Param.opSetTargetParams
  | .mboxSetDevQueueParams => .mailbox Param.opSetDevQueueParams
  | .mboxSetResetDelayParams => .mailbox Param.opSetResetDelayParams
  | .mboxReturnBiosBlockAddr => .mailbox Param.opReturnBiosBlockAddr
  | .mboxWriteFourRamWords => .mailbox Param.opWriteFourRamWords
  | .mboxExecuteBiosIocb => .mailbox Param.opExecuteBiosIocb
  | .mboxSetFirmwareFeatures => .mailbox Param.opSetFirmwareFeatures
  | .mboxGetFirmwareFeatures => .mailbox Param.opGetFirmwareFeatures
  | .mboxLoadRamA64 => .mailbox Param.opLoadRamA64
  | .mboxDumpRamA64 => .mailbox Param.opDumpRamA64
  | .mboxInitReqQueueA64 => .mailbox Param.opInitReqQueueA64
  | .mboxInitResQueueA64 => .mailbox Param.opInitResQueueA64
  | .mboxExecuteIocbA64 => .mailbox Param.opExecuteIocbA64
  | .mboxReadFourRamWords => .mailbox c.nums.readFour
  | .mboxInvalid op => .mailbox op
  | .iocbCmd o b => .iocb o b
  | .iocbCont o b => .iocb o b
  | .iocbResp o b => .iocb o b
  | .iocbMarker o b => .iocb o b
  | .iocbCmd64 o b => .iocb o b
  | .iocbCont64 o b => .iocb o b
  | .iocbUnknown o b => .iocb o b
  | .flashUnlockAa => .flashWrite Param.cmdUnlock1
  | .flashUnlock55 => .flashWrite Param.cmdUnlock2
  | .flashAutoselect => .flashWrite Param.cmdAutoselect
  | .flashProgram => .flashWrite Param.cmdProgram
  | .flashEraseSetup => .flashWrite Param.cmdEraseSetup
  | .flashChipErase => .flashWrite Param.cmdChipErase
  | .flashBlockErase => .flashWrite Param.cmdBlockErase
  | .flashReadArray => .flashWrite Param.cmdReadArray
  | .flashProgramData d => .flashWrite d
  | .flashRead => .flashRead

/-! ### Words of the opcode table -/

/-- The open numbers of the card that the table's words are for, and of `State.reset`: DESIGN CHOICE, unsafe (log 3). -/
def tableNums : OpenNumbers where
  pioPort := 0x16
  pinsDiff := 0x7A
  readFour := 0x43

/-- The context of the table's banked rows: GEN_OLD with the RISC bank selected, the flash not waiting for data. -/
def tableCtx : DecodeCtx where
  gen := .old
  conf1 := 0
  programSetup := false
  nums := tableNums

/-- The request that `nbits` bits `w` of the opcode table stand for. A row of the table gives no bit that tells a read from
a write, or one kind of request from another, so several rows share their bits (DESIGN CHOICE, safe: log 24). A word of at
most 8 bits is read, in this order, as a register read whose offset names a register, as a descriptor of a known entry
type, as a flash command byte, and else as a register read. A longer word is a mailbox opcode, and else a write to HCCR. -/
def tableRequest (nbits w : Nat) : Request :=
  if nbits ≤ 8 then
    let off : Word := .ofNat 16 w
    let d : Byte := .ofNat 8 w
    if !oddOffset off && (resolve tableCtx off).isSome then .regRead off
    else if entryTypes.contains d then .iocb (.direct 0) (d :: List.replicate 63 0)
    else if flashCommands.any fun e => e.1 == d then .flashWrite d
    else .regRead off
  else
    let op : Word := .ofNat 16 w
    if (mailboxOps tableNums).any fun e => e.1 == op then .mailbox op
    else .regWrite (regOffset .old tableNums .hccr) op

/-- The instruction that the decoder reads from a word of the opcode table. -/
def decodeTableWord (nbits w : Nat) : Option Instr :=
  match decode tableCtx (tableRequest nbits w) with
  | .ok i => some i
  | .error _ => none

end Sys2Proof
end

