-- ==== Sys2Proof/Machine/State.lean ====
section
/-! DEFINITION. The state of the block as plain data (spec/10_state.md), and its power-on state (R701). The groups follow
the units: the instance, the registers, the engine, the flash unit, firmware memory, and the environment, whose fields are
the MODEL's own (inputs still to come, and a record of what the block asked for). -/

namespace Sys2Proof.Machine

/-! ### The instance (R3, R4, R11, R30, R69) -/

/-- `FLASH_VARIANT` (R4). -/
inductive FlashVariant where
  | fv0
  | fv1
deriving DecidableEq, Repr

/-- `FLASH_SIZE`: 65536 or 131072 bytes (R69, R164). -/
inductive FlashSize where
  | k64
  | k128
deriving DecidableEq, Repr

/-- `NUM_BUSES`: 1 or 2 (R11). -/
inductive Buses where
  | one
  | two
deriving DecidableEq, Repr

/-- The reset values that have no candidate: arguments of the model (R703, spec/93_implementation_defined.md §3). -/
structure ResetValues where
  /-- `CONF0_RESET` (R32). -/
  conf0 : Word
  /-- `CONF1_RESET`, of which the `BANK_SEL` field is not used: it selects the RISC bank (R33). -/
  conf1 : Word
  /-- `TPARM_FLAGS_RESET` (R60). -/
  targetFlags : Word
  /-- `BPARAM_RESET[k]` (R61). -/
  busParams : Vector Word 10
deriving DecidableEq, Repr

/-- What is fixed for one card (R30), the parameters without a candidate among it: no step writes it. -/
structure Inst where
  gen : Gen
  flashVariant : FlashVariant
  flashSize : FlashSize
  buses : Buses
  /-- `NUM_TARGETS` (R11). -/
  numTargets : Nat
  /-- `NUM_LUNS` (R11): no rule reads it. -/
  numLuns : Nat
  nums : OpenNumbers
  resets : ResetValues
deriving DecidableEq, Repr

/-! ### Registers (R31 to R48) -/

/-- The stored registers of one DMA channel (R48); its status and FIFO registers store nothing. -/
structure DmaChannel where
  conf : Word
  control : Word
  addr : Vector Word 4
deriving DecidableEq, Repr

/-- The stored registers. -/
structure Regs where
  conf0 : Word
  conf1 : Word
  icr : Word
  isr : Word
  sema : Word
  flashAddr : Word
  mbin : Vector Word 8
  mbout : Vector Word 8
  riscPsr : Word
  riscPc : Word
  riscMtr : Word
  riscPaused : Bool
  gpioData : Word
  gpioEnable : Word
  dma : Vector DmaChannel 2
deriving DecidableEq, Repr

/-! ### The engine (R49 to R62, R64, R81) -/

/-- `sxp_state` (R49). -/
inductive SxpState where
  | idle | selectDevice | selectionTimeout | sendCdb | badPacket | completeCommand
  | scheduleRiscInterrupt | setRiscInterrupt | scheduleMboxInterrupt | mboxWaitTimer
  | acquireMboxSemaphore | scheduleTimerSilence | waitTimer
deriving DecidableEq, Repr

/-- A queued direct request (R51). -/
inductive DirectReq where
  | exec (addr : Addr) (a64 : Bool)
  | bios (addr : Addr)
deriving DecidableEq, Repr

/-- The in-flight request descriptor (R55). -/
structure Packet where
  bytes : List Byte
  origin : Origin
  skip : Bool
deriving DecidableEq, Repr

/-- The in-flight response descriptor: the fields of R151 that are not constant. -/
structure Response where
  sequence : Byte
  hflags : Byte
  handle : DWord
  scsiStatus : Word
  completionStatus : Word
  stateFlags : Word
  statusFlags : Word
  time : Word
  senseLen : Word
  residual : DWord
  sense : List Byte
deriving DecidableEq, Repr

/-- The completion path of a command (R57). -/
inductive PostKind where
  | ring | fastPost | silent | mboxOnly | mboxAndRing | mboxResult
deriving DecidableEq, Repr

/-- The parameters of one target (R60, R61). -/
structure TargetParam where
  flags : Word
  syncPeriod : Byte
  syncOffset : Byte
  queue0 : Word
  queue1 : Word
deriving DecidableEq, Repr

/-- The keys of the bus-parameter store (R61). -/
inductive BParam where
  | initId | selTimeout | retryCount | retryDelay | tagAge | clockRate | actNeg | asyncSetup | pciParams | resetDelay
deriving DecidableEq, Repr

/-- The parameter stores of one bus (R60, R61): a target for each id that a 7-bit field can name, of which those below
`NUM_TARGETS` are used. -/
structure Bus where
  targets : Vector TargetParam 128
  params : Vector Word 10
deriving DecidableEq, Repr

/-- The BIOS PIO buffer: its words and the read index (R62). -/
structure PioBuf where
  words : List Word
  idx : Nat
deriving DecidableEq, Repr

/-- The state of the SXP engine. -/
structure Sxp where
  state : SxpState
  mboxCmdPending : Bool
  directReq : Option DirectReq
  mboutMask : BitVec 8
  stageOut : Vector Word 8
  reqBase : Addr
  respBase : Addr
  reqLen : Word
  respLen : Word
  reqInit : Bool
  respInit : Bool
  reqOut : Word
  respIn : Word
  abortQ : List Word
  pkt : Option Packet
  pktResp : Option Response
  curPath : BitVec 1
  curTarget : BitVec 7
  curLun : Byte
  postKind : Option PostKind
  postDelay : Nat
  fastPost : Bool
  buses : Vector Bus 2
  pioBuf : Option PioBuf
  timerArmed : Bool
  running : Bool
deriving DecidableEq, Repr

/-! ### The flash unit (R65 to R69) -/

/-- `fl_mode` (R65). -/
inductive FlMode where
  | readArray | autoselect | programSetup | programming | programError | eraseAccept | erasing | chipErasing
deriving DecidableEq, Repr

/-- The flash unit. `array` lists the bytes that differ from the erased value. -/
structure Flash where
  mode : FlMode
  cycle : Fin 6
  status : Byte
  prot : Vector Bool 8
  pending : Vector Bool 8
  array : List Host.Cell
  acceptArmed : Bool
  doneArmed : Bool
deriving DecidableEq, Repr

/-! ### The environment: the model's own fields -/

/-- The timers (R64, R605). -/
inductive Timer where
  | sxp | eraseAccept | flashDone
deriving DecidableEq, Repr

/-- An event of the host or of a timer: the atomic steps of R606, the PCI reset (R701), and a bus cycle of the flash unit
taken alone (log 25). -/
inductive HostEvent where
  | read (off : Word)
  | write (off v : Word)
  | store (addr : Addr) (bytes : List Byte)
  | fire (t : Timer)
  | pciReset
  | flashWrite (d : Byte)
  | flashRead
deriving DecidableEq, Repr

/-- A call with an effect on the NVRAM or target oracle (R76, R77). -/
inductive OracleCall where
  | nvWrite (v : Word)
  | nvRead
  | targetReset (t : Nat)
  | command (target : BitVec 7) (lun : Byte) (cdb : List Byte)
  | dataOut (target : BitVec 7) (bytes : List Byte)
  | requestSense (target : BitVec 7) (lun : Byte)
deriving DecidableEq, Repr

/-- The oracle answers still to come, and how many free draws were made (log 12). Those of the NVRAM are counted apart, so that
nothing else depends on them (R77). -/
structure Oracle where
  dma : List Bool
  present : List Bool
  reply : List CommandReply
  sense : List (List Byte)
  nvram : List Word
  draws : Nat
  nvramDraws : Nat
deriving DecidableEq, Repr

/-- Why a pass of the engine suspends (R400). `inconsistent` is the model's own: a state that needs a descriptor has none
(log 23). -/
inductive Suspend where
  | nothingToDo | ringEmpty | respFull | waitTimer | waitSemaphore | inconsistent
deriving DecidableEq, Repr

/-- The environment. `hostMem` lists the bytes of host memory that differ from what an unlisted byte reads (log 11). -/
structure Env where
  hostMem : List Host.Cell
  oracle : Oracle
  script : List HostEvent
  readData : Word
  calls : List OracleCall
  lastSuspend : Option Suspend
deriving DecidableEq, Repr

/-! ### The whole state -/

/-- The internal faults (R82, R603). -/
inductive InternalFault where
  /-- A continuation slot holds neither continuation type (R425). -/
  | badContinuation
  /-- The DMA interface failed inside the engine (R447). -/
  | dmaFailure
deriving DecidableEq, Repr

/-- The state of one controller instance and its environment. `fw` lists the words of firmware memory that are not 0. -/
structure State where
  inst : Inst
  reg : Regs
  sxp : Sxp
  fw : List (Nat × Word)
  flash : Flash
  env : Env
  faulted : Option InternalFault
deriving DecidableEq, Repr

/-- Why the machine stops. -/
inductive Fault where
  /-- Raised by `step` at a state in which a fault is recorded: no event of any agent is enabled (R603). Safe: the spec says
  that the machine is stuck. -/
  | internal (f : InternalFault)
deriving DecidableEq, Repr

/-- Why the model gives an event no meaning. -/
inductive Refusal where
  /-- Raised by `exec` for an instruction without a meaning yet. Safe. -/
  | notModelled (mnemonic : String)
  /-- Raised by `step` when the script fires a timer that is not armed: the event is not enabled (R605). Safe. -/
  | timerNotArmed (t : Timer)
  /-- Raised by `step` for a request that decoding refuses. Safe: no event of the script makes one. -/
  | undecodable (r : DecodeReject)
deriving DecidableEq, Repr

/-! ### Reset values (R700, R701) -/

/-- The value of firmware memory's unlisted words (R59). -/
abbrev fwDefault : Word := 0

/-- What an unlisted byte of host memory reads: DESIGN CHOICE 0x00, unsafe (log 11). -/
abbrev hostDefault : Byte := 0

/-- What an unlisted byte of the flash array reads: the erased value. As the power-on image (`FLASH_IMAGE`, R69) it is
DESIGN CHOICE, unsafe (log 10). -/
abbrev flashDefault : Byte := 0xFF

/-- Firmware memory after a reset: every word 0 but the sentinel (R59). -/
def fwReset : List (Nat × Word) :=
  if Config.fwSentinelValue = fwDefault then [] else [(Config.fwSentinelAddr.toNat, Config.fwSentinelValue)]

/-- The registers after a reset (R31 to R48, R700): `BANK_SEL` selects the RISC bank (R33). -/
def Regs.reset (n : Inst) : Regs where
  conf0 := n.resets.conf0
  conf1 := n.resets.conf1 &&& ~~~bankSelMask n.gen
  icr := 0
  isr := 0
  sema := 0
  flashAddr := 0
  mbin := .replicate 8 0
  mbout := .replicate 8 0
  riscPsr := 0
  riscPc := 0
  riscMtr := 0
  riscPaused := false
  gpioData := 0
  gpioEnable := 0
  dma := .replicate 2 { conf := 0, control := 0, addr := .replicate 4 0 }

/-- One bus's parameters after a reset (R60, R61). -/
def Bus.reset (n : Inst) : Bus where
  targets := .replicate 128
    { flags := n.resets.targetFlags, syncPeriod := 0, syncOffset := 0, queue0 := 0, queue1 := 0 }
  params := n.resets.busParams

/-- The engine after a reset (R49 to R62, R700). -/
def Sxp.reset (n : Inst) : Sxp where
  state := .idle
  mboxCmdPending := false
  directReq := none
  mboutMask := 0
  stageOut := .replicate 8 0
  reqBase := 0
  respBase := 0
  reqLen := 0
  respLen := 0
  reqInit := false
  respInit := false
  reqOut := 0
  respIn := 0
  abortQ := []
  pkt := none
  pktResp := none
  curPath := 0
  curTarget := 0
  curLun := 0
  postKind := none
  postDelay := 0
  fastPost := false
  buses := .replicate 2 (Bus.reset n)
  pioBuf := none
  timerArmed := false
  running := false

/-- The flash unit at power-on, with protection flags and an image (R65 to R69). -/
def Flash.powerOn (prot : Vector Bool 8) (image : List Host.Cell) : Flash where
  mode := .readArray
  cycle := 0
  status := 0
  prot := prot
  pending := .replicate 8 false
  array := image
  acceptArmed := false
  doneArmed := false

/-- An environment with nothing to come. -/
def Env.start : Env where
  hostMem := []
  oracle := { dma := [], present := [], reply := [], sense := [], nvram := [], draws := 0, nvramDraws := 0 }
  script := []
  readData := 0
  calls := []
  lastSuspend := none

/-- Power-on of a card: device attach (R701). -/
def State.powerOn (inst : Inst) (prot : Vector Bool 8) (image : List Host.Cell) : State where
  inst := inst
  reg := Regs.reset inst
  sxp := Sxp.reset inst
  fw := fwReset
  flash := Flash.powerOn prot image
  env := Env.start
  faulted := none

/-- The card of `State.reset`: GEN_OLD, FV0 with 131072 bytes and one bus are DESIGN CHOICE (log 9), 16 targets and 8 LUNs
PRESUMED (log 6), the open numbers and the reset values DESIGN CHOICE (logs 3, 8); all unsafe. -/
def Inst.card : Inst where
  gen := .old
  flashVariant := .fv0
  flashSize := .k128
  buses := .one
  numTargets := 16
  numLuns := 8
  nums := tableNums
  resets := { conf0 := 0, conf1 := 0, targetFlags := 0, busParams := .replicate 10 0 }

/-- The machine right after power-on of that card, with no block protected and a blank flash (logs 9, 10). -/
def State.reset : State := State.powerOn Inst.card (.replicate 8 false) []

end Sys2Proof.Machine
end

