-- ==== Sys2Proof/Machine/Operands.lean ====
section
/-! DEFINITION. Every operand form of the spec: little-endian fields (R91), mailbox arguments (R132, R136, R137, R383,
R384), the fields and segments of descriptors (R140 to R150), the bytes of a response (R151), ring slots (R97) and the
flash address (R131). -/

namespace Sys2Proof.Machine

/-! ### Little-endian bytes (R91) -/

/-- Byte `o` of a byte array; a descriptor has 64 of them. -/
def byteAt (b : List Byte) (o : Nat) : Byte := b.getD o 0

/-- `le16(b, o)` (R91). -/
def le16 (b : List Byte) (o : Nat) : Word := byteAt b (o + 1) ++ byteAt b o

/-- `le32(b, o)` (R91). -/
def le32 (b : List Byte) (o : Nat) : DWord := le16 b (o + 2) ++ le16 b o

/-- The two bytes of `put16` (R13, R91). -/
def put16 (v : Word) : List Byte := [v.extractLsb' 0 8, v.extractLsb' 8 8]

/-- The four bytes of `put32` (R13, R91). -/
def put32 (v : DWord) : List Byte := put16 (v.extractLsb' 0 16) ++ put16 (v.extractLsb' 16 16)

/-- The words of a byte stream, little-endian pairs; a last odd byte is padded with 0x00 (R302, R426). -/
def wordsOf : List Byte → List Word
  | [] => []
  | [lo] => [(0 : Byte) ++ lo]
  | lo :: hi :: rest => (hi ++ lo) :: wordsOf rest

/-! ### Mailbox arguments -/

/-- The bus number of a bus/target/LUN word: bit 15 (R136, R384). -/
def btBus (w : Word) : BitVec 1 := w.extractLsb' 15 1

/-- The target id of a bus/target/LUN word: bits 14:8 (R136, R384). -/
def btTarget (w : Word) : BitVec 7 := w.extractLsb' 8 7

/-- The LUN of a bus/target/LUN word: bits 7:0 (R136, R384). -/
def btLun (w : Word) : Byte := w.extractLsb' 0 8

/-- `NUM_BUSES` (R11). -/
def numBuses : Buses → Nat
  | .one => 1
  | .two => 2

/-- `bt_ok(w)` (R384). -/
def btOk (n : Inst) (w : Word) : Bool :=
  (btBus w).toNat < numBuses n.buses && (btTarget w).toNat < n.numTargets

/-- A 32-bit host address: `mbin[2] ++ mbin[3]`, extended with zeros (R137). -/
def hostAddr32 (m : Vector Word 8) : Addr := (m[2] ++ m[3]).zeroExtend 64

/-- A 64-bit host address: `mbin[6] ++ mbin[7] ++ mbin[2] ++ mbin[3]` (R137). -/
def hostAddr64 (m : Vector Word 8) : Addr := m[6] ++ m[7] ++ m[2] ++ m[3]

/-- `fw_ok(a, n)`, without wrap-around (R383). -/
def fwOk (a : Word) (n : Nat) : Bool := a.toNat + n ≤ 0x10000

/-- The index of a bus-parameter key (R61). -/
def bparamIdx : BParam → Fin 10
  | .initId => 0
  | .selTimeout => 1
  | .retryCount => 2
  | .retryDelay => 3
  | .tagAge => 4
  | .clockRate => 5
  | .actNeg => 6
  | .asyncSetup => 7
  | .pciParams => 8
  | .resetDelay => 9

/-! ### Fields of a descriptor (R140, R142, R150) -/

/-- `entry_count` (R140). -/
def entryCount (b : List Byte) : Nat := (byteAt b 1).toNat

/-- `sequence` (R140). -/
def sequenceOf (b : List Byte) : Byte := byteAt b 2

/-- `handle` (R142). -/
def handleOf (b : List Byte) : DWord := le32 b 4

/-- `lun` (R150). -/
def lunOf (b : List Byte) : Byte := byteAt b 8

/-- `path`: bit 7 of byte 9 (R150). -/
def pathOf (b : List Byte) : BitVec 1 := (byteAt b 9).extractLsb' 7 1

/-- `target`: bits 6:0 of byte 9 (R150). -/
def targetOf (b : List Byte) : BitVec 7 := (byteAt b 9).extractLsb' 0 7

/-- `rflags` (R142, R148). -/
def rflagsOf (b : List Byte) : Word := le16 b 12

/-- `seg_count` (R142). -/
def segCount (b : List Byte) : Nat := (le16 b 18).toNat

/-- The command bytes: `b[20 .. 20 + min(cdb_len, 12) - 1]` (R142, R420). -/
def cdbOf (b : List Byte) : List Byte := (b.drop 20).take (min (le16 b 10).toNat Param.cdbMax)

/-- How many ring slots a descriptor takes: its entry count, at least 1 (R430, R431). -/
def slotsOf (b : List Byte) : Nat := max 1 (entryCount b)

/-- A command of either segment form (R324, R402, R405). -/
def isCommand (b : List Byte) : Bool := entryType b == Param.etCmd || entryType b == Param.etCmd64

/-- The state that a fetched descriptor leads to: `SelectDevice` for a command or a marker, else `BadPacket` (R402,
R405). -/
def dispatchState (b : List Byte) : SxpState :=
  if isCommand b || entryType b == Param.etMarker then .selectDevice else .badPacket

/-! ### Data segments (R142 to R147) -/

/-- A data segment: host address and byte count (R147). -/
structure Segment where
  base : Addr
  count : Nat
deriving DecidableEq, Repr

/-- The 32-bit form of a segment, 8 bytes at `o` (R147). -/
def segment32 (b : List Byte) (o : Nat) : Segment where
  base := (le32 b o).zeroExtend 64
  count := (le32 b (o + 4)).toNat

/-- The 64-bit form of a segment, 12 bytes at `o` (R147). -/
def segment64 (b : List Byte) (o : Nat) : Segment where
  base := le32 b (o + 4) ++ le32 b o
  count := (le32 b (o + 8)).toNat

/-- The inline segments of a command: 4 of 8 bytes at 32, or 2 of 12 bytes at 40 for `ET_CMD64` (R142, R143, R425). -/
def inlineSegments (b : List Byte) : List Segment :=
  if entryType b = Param.etCmd64 then (List.range 2).map fun k => segment64 b (40 + 12 * k)
  else (List.range 4).map fun k => segment32 b (32 + 8 * k)

/-- The segments of a continuation: 7 of 8 bytes at 8 for `ET_CONT`, 5 of 12 bytes at 4 for `ET_CONT64`; `none` for any
other type (R144, R145, R425). -/
def contSegments (b : List Byte) : Option (List Segment) :=
  if entryType b = Param.etCont then some ((List.range 7).map fun k => segment32 b (8 + 8 * k))
  else if entryType b = Param.etCont64 then some ((List.range 5).map fun k => segment64 b (4 + 12 * k))
  else none

/-- The host's length: the sum of the segments' counts (R420). -/
def hostLen (segs : List Segment) : Nat := (segs.map (·.count)).sum

/-! ### Responses (R151, R406) -/

/-- `new_resp(b)` (R406). -/
def newResp (b : List Byte) : Response where
  sequence := sequenceOf b
  hflags := 0
  handle := handleOf b
  scsiStatus := 0
  completionStatus := 0
  stateFlags := 0
  statusFlags := 0
  time := 0
  senseLen := 0
  residual := 0
  sense := []

/-- The sense area of a response: 32 bytes, zeros after the sense data (R151). -/
def senseBytes (sense : List Byte) : List Byte :=
  sense.take Param.senseMax ++ List.replicate (Param.senseMax - sense.length) 0

/-- The 64 bytes of a response descriptor (R151). -/
def responseBytes (r : Response) : List Byte :=
  [Param.etResp, 1, r.sequence, r.hflags] ++ put32 r.handle ++ put16 r.scsiStatus ++ put16 r.completionStatus
    ++ put16 r.stateFlags ++ put16 r.statusFlags ++ put16 r.time ++ put16 r.senseLen ++ put32 r.residual
    ++ List.replicate 8 0 ++ senseBytes r.sense

/-! ### Ring slots (R97, R403, R431) -/

/-- The host address of entry `slot` of a ring at `base` (R97). -/
def slotAddr (base : Addr) (slot : Word) : Addr := base + 64 * slot.zeroExtend 64

/-- A cursor moved on by `n` slots, modulo the ring's length (R403, R431, R441). -/
def ringAdd (cursor : Word) (n : Nat) (len : Word) : Word := .ofNat 16 ((cursor.toNat + n) % len.toNat)

/-- A host cursor reduced modulo the ring's length (R403, D13). -/
def ringMod (cursor len : Word) : Word := cursor % len

/-- How many slots are pending: `(req_in - req_out) mod req_len`, with `req_in` reduced first (R324). -/
def ringPending (rin rout len : Word) : Nat :=
  (((ringMod rin len).toNat - rout.toNat : Int) % len.toNat).toNat

/-! ### Flash addresses (R131, R160, R164) -/

/-- A flash byte address before the reduction modulo the size: the bit `A16` and `FLASH_ADDR` (R131). -/
structure FlashAddr where
  a16 : Bool
  low : Word
deriving DecidableEq, Repr

/-- `FLASH_SIZE` (R69). -/
def flashBytes : FlashSize → Nat
  | .k64 => 65536
  | .k128 => 131072

/-- `BLOCK_SIZE`: an eighth of the array (R69). -/
def blockSize (z : FlashSize) : Nat := flashBytes z / 8

/-- `fa`: the index of the byte, modulo `FLASH_SIZE` (R131). -/
def flashIndex (z : FlashSize) (fa : FlashAddr) : Nat := (65536 * fa.a16.toNat + fa.low.toNat) % flashBytes z

/-- `blk(fa)` (43_flash.md, introduction). -/
def flashBlock (z : FlashSize) (fa : FlashAddr) : Fin 8 := Fin.ofNat 8 (flashIndex z fa / blockSize z)

/-- `UNLOCK1` (R164). -/
def unlock1 : FlashVariant → Word
  | .fv0 => 0x5555
  | .fv1 => 0x555

/-- `UNLOCK2` (R164). -/
def unlock2 : FlashVariant → Word
  | .fv0 => 0x2AAA
  | .fv1 => 0x2AA

/-- `CMD_ADDR_MASK` (R164). -/
def cmdAddrMask : FlashVariant → Word
  | .fv0 => 0x7FFF
  | .fv1 => 0x7FF

/-- `MANUF_ID` (R164). -/
def manufId : FlashVariant → Byte
  | .fv0 => 0x01
  | .fv1 => 0x01

/-- `MODEL_ID` (R164). -/
def modelId : FlashVariant → Byte
  | .fv0 => 0x20
  | .fv1 => 0x6E

/-- `fa ~ U`: `fa & CMD_ADDR_MASK = U` (R160). The mask has no bit 16, so the low 16 bits decide. -/
def cmdMatch (v : FlashVariant) (fa : FlashAddr) (u : Word) : Bool := fa.low &&& cmdAddrMask v == u

end Sys2Proof.Machine
end

