-- ==== Sys2Proof/Machine/Flags.lean ====
section
/-! DEFINITION. Every status bit and flag the spec computes: the interrupt line (R63, R124), the semaphore (R125, R209),
HCCR's read value (R220), `active` (R52), the completion, state and status flags of a response (R153, R154, R420, R423),
and the flash status bits (R67, R511). The block has no condition codes (R79). -/

namespace Sys2Proof.Machine

/-! ### Interrupt control and status -/

/-- All the bits of `m` are set in `v`; for a one-bit mask, the bit. -/
def bitSet (v m : Word) : Bool := v &&& m == m

/-- `irq_enabled(icr)` (R124). -/
def irqEnabled (icr : Word) : Bool := bitSet icr Param.icrEnAll && bitSet icr Param.icrEnRisc

/-- `irq`, the interrupt line (R63, R232, R611). -/
def irq (r : Regs) : Bool := bitSet r.isr Param.isrRiscInt && irqEnabled r.icr

/-- What a write of `v` that is no soft reset stores in ICR: every bit but `ICR_SOFT_RESET` (R207, D10). -/
def icrStored (v : Word) : Word := v &&& ~~~Param.icrSoftReset

/-- ISR with `ISR_RISC_INT` set (R443). -/
def isrRaised (isr : Word) : Word := isr ||| Param.isrRiscInt

/-- ISR with `ISR_RISC_INT` clear (R225). -/
def isrCleared (isr : Word) : Word := isr &&& ~~~Param.isrRiscInt

/-! ### Semaphore -/

/-- SEMA after a write of `v` (R209). -/
def semaWritten (sema v : Word) : Word := if v ≠ 0 then v &&& Param.semaMask else sema &&& Param.semaStatus

/-- `SEMA_LOCK` is set (R125, R442). -/
def semaLocked (sema : Word) : Bool := bitSet sema Param.semaLock

/-! ### HCCR and the engine -/

/-- What HCCR reads (R45, R220). -/
def hccrValue (pending paused : Bool) : Word :=
  (if pending then Param.hccrHostIntBit else 0) ||| (if paused then Param.hccrPausedBit else 0)

/-- `active`: both rings are initialised (R52). -/
def ringsActive (x : Sxp) : Bool := x.reqInit && x.respInit

/-! ### Response flags -/

/-- `length_status(dev, host)` (R423). -/
def lengthStatus (dev host : Nat) : Word :=
  if dev = host then Param.csComplete else if host < dev then Param.csDataOverrun else Param.csDataUnderrun

/-- `residual`: `host_len - moved` on an underrun, else 0; 32 bits (R151, R420). -/
def residualOf (dev host moved : Nat) : DWord := if dev < host then .ofNat 32 (host - moved) else 0

/-- The state flags of an executed command (R420). -/
def executedFlags (moved : Nat) : Word :=
  Param.sfGotBus ||| Param.sfGotTarget ||| Param.sfSentCdb ||| Param.sfGotStatus
    ||| (if 0 < moved then Param.sfXfrdData else 0) ||| Param.sfXferComplete

/-- `HF_BAD` (R149). -/
def hfBad : Byte := (1 : Byte) <<< Config.hfBadBit.val

/-- Bit `TPARM_ARQ` of a target's flags (R60, R424). -/
def arqEnabled (flags : Word) : Bool := flags.getLsbD Config.tparmArqBit

/-- The conditions of automatic sense: check condition, not disabled by the descriptor, enabled for the target (R424). -/
def autoSenseWanted (status : Byte) (rflags targetFlags : Word) : Bool :=
  status == Param.checkCondition && !bitSet rflags Param.rfDisarq && arqEnabled targetFlags

/-- `fast_post` as a feature word (R343). -/
def featureWord (fastPost : Bool) : Word := if fastPost then 1 <<< Param.fwfFastPostBit else 0

/-! ### Flash status (R67, R162) -/

/-- `fl_status` with the toggle bit flipped: what a status read stores and returns (R511). -/
def flStatusToggled (st : Byte) : Byte := st ^^^ Param.fstToggle

/-- `fl_status` with the error bit set (R512). -/
def flStatusError (st : Byte) : Byte := st ||| Param.fstError

/-- `fl_status` with the timeout bit set (R509). -/
def flStatusTimeout (st : Byte) : Byte := st ||| Param.fstTimeout

/-- Programming `d` over `cur` would set a bit: `(d & ~cur) ≠ 0` (R512). -/
def programSetsBit (d cur : Byte) : Bool := d &&& ~~~cur != 0

end Sys2Proof.Machine
end

