-- ==== Sys2Proof/Machine/Ops.lean ====
section
/-! DEFINITION. The named operations over memories, oracles, registers and timers, and the block's counterparts of an
exception: recording an internal fault (R603), and a posting to the host (R615), which R442, R441 and R443 make in three
parts. The return from a posting is the host's writes to SEMA (R209) and HCCR (R225); their register updates are
here too. -/

namespace Sys2Proof.Machine

/-! ### Memories: lists of cells in one canonical form -/

/-- One cell of a memory whose unlisted cells read `dflt`. -/
def Memory.read {w : Nat} (dflt : BitVec w) : List (Nat × BitVec w) → Nat → BitVec w
  | [], _ => dflt
  | (k, v) :: m, a => if a = k then v else Memory.read dflt m a

/-- A write of one cell; writing `dflt` unlists the cell. -/
def Memory.write {w : Nat} (dflt : BitVec w) : List (Nat × BitVec w) → Nat → BitVec w → List (Nat × BitVec w)
  | [], a, v => if v = dflt then [] else [(a, v)]
  | (k, u) :: m, a, v =>
    if a < k then (if v = dflt then (k, u) :: m else (a, v) :: (k, u) :: m)
    else if a = k then (if v = dflt then m else (a, v) :: m)
    else (k, u) :: Memory.write dflt m a v

/-- The canonical form: addresses strictly rising, and no cell listed with the value an unlisted cell reads. -/
def Memory.wf {w : Nat} (dflt : BitVec w) : List (Nat × BitVec w) → Bool
  | [] => true
  | (k, v) :: m => v != dflt && (m.all fun e => k < e.1) && Memory.wf dflt m

/-- `n` bytes of host memory from `a`; addresses wrap modulo 2^64 (R12, log 22). -/
def readBytes (m : List Host.Cell) (a : Addr) : Nat → List Byte
  | 0 => []
  | n + 1 => Memory.read hostDefault m a.toNat :: readBytes m (a + 1) n

/-- Host memory with `bytes` stored from `a` on. -/
def writeBytes (m : List Host.Cell) (a : Addr) : List Byte → List Host.Cell
  | [] => m
  | b :: bs => writeBytes (Memory.write hostDefault m a.toNat b) (a + 1) bs

/-- `fw[a]` (R13, R93). -/
def fwRead (s : State) (a : Word) : Word := Memory.read fwDefault s.fw a.toNat

/-- `fw[a] <- v` (R13, R93). -/
def fwWrite (s : State) (a v : Word) : State := { s with fw := Memory.write fwDefault s.fw a.toNat v }

/-- `fw[a+k] <- w_k` for the words of a list (R302, R306). -/
def fwWriteWords (s : State) (a : Word) : List Word → State
  | [] => s
  | w :: ws => fwWriteWords (fwWrite s a w) (a + 1) ws

/-- The words `fw[a], …, fw[a+n-1]` (R303, R307, R308). -/
def fwReadWords (s : State) (a : Word) : Nat → List Word
  | 0 => []
  | n + 1 => fwRead s a :: fwReadWords s (a + 1) n

/-- The host stores bytes in host memory: an atomic step of R606. -/
def hostStore (s : State) (a : Addr) (bytes : List Byte) : State :=
  { s with env := { s.env with hostMem := writeBytes s.env.hostMem a bytes } }

/-! ### Oracles (R76, R77, R90; log 12)

An answer is the next of those the environment holds; when none is left it is a free value, counted in `draws`. -/

/-- The next answer of the DMA interface: `true` is `Ok`. -/
def drawDma (s : State) : Bool × State :=
  match s.env.oracle.dma with
  | a :: q => (a, { s with env := { s.env with oracle := { s.env.oracle with dma := q } } })
  | [] => (Config.freeDma s.env.oracle.draws,
      { s with env := { s.env with oracle := { s.env.oracle with draws := s.env.oracle.draws + 1 } } })

/-- The next answer to `Target(0, t)`: whether a device is there. -/
def drawPresent (s : State) : Bool × State :=
  match s.env.oracle.present with
  | a :: q => (a, { s with env := { s.env with oracle := { s.env.oracle with present := q } } })
  | [] => (Config.freePresent s.env.oracle.draws,
      { s with env := { s.env with oracle := { s.env.oracle with draws := s.env.oracle.draws + 1 } } })

/-- The next answer to `Command`. -/
def drawReply (s : State) : CommandReply × State :=
  match s.env.oracle.reply with
  | a :: q => (a, { s with env := { s.env with oracle := { s.env.oracle with reply := q } } })
  | [] => (Config.freeReply s.env.oracle.draws,
      { s with env := { s.env with oracle := { s.env.oracle with draws := s.env.oracle.draws + 1 } } })

/-- The next answer to `RequestSense`: at most 32 bytes (R76). -/
def drawSense (s : State) : List Byte × State :=
  match s.env.oracle.sense with
  | a :: q => (a.take Param.senseMax, { s with env := { s.env with oracle := { s.env.oracle with sense := q } } })
  | [] => ((Config.freeSense s.env.oracle.draws).take Param.senseMax,
      { s with env := { s.env with oracle := { s.env.oracle with draws := s.env.oracle.draws + 1 } } })

/-- The next answer to `NvRead`. -/
def drawNvram (s : State) : Word × State :=
  match s.env.oracle.nvram with
  | a :: q => (a, { s with env := { s.env with oracle := { s.env.oracle with nvram := q } } })
  | [] => (Config.freeNvram s.env.oracle.nvramDraws,
      { s with env := { s.env with oracle := { s.env.oracle with nvramDraws := s.env.oracle.nvramDraws + 1 } } })

/-- A call to an oracle, put on record. -/
def recordCall (c : OracleCall) (s : State) : State := { s with env := { s.env with calls := c :: s.env.calls } }

/-- The outcome of a DMA call: a value, or `DmaError`, each with the state after the call (R90). -/
inductive Dma (α : Type) where
  | ok (v : α) (s : State)
  | error (s : State)

/-- `MemRead(addr, n)` (R90). A read of no bytes makes no call (log 21). -/
def memRead (s : State) (a : Addr) (n : Nat) : Dma (List Byte) :=
  if n = 0 then .ok [] s
  else
    match drawDma s with
    | (true, t) => .ok (readBytes t.env.hostMem a n) t
    | (false, t) => .error t

/-- `MemWrite(addr, n, bytes)` (R90): a call that fails writes nothing (log 12), a write of no bytes makes no call
(log 21). -/
def memWrite (s : State) (a : Addr) (bytes : List Byte) : Dma Unit :=
  if bytes.isEmpty then .ok () s
  else
    match drawDma s with
    | (true, t) => .ok () (hostStore t a bytes)
    | (false, t) => .error t

/-! ### Register reads -/

/-- The value that a host register read returns. -/
def returnRead (v : Word) (s : State) : State := { s with env := { s.env with readData := v } }

/-! ### Timers (R64, R605): the delay argument orders nothing -/

/-- `armed[T]` (R64). -/
def timerArmed (t : Timer) (s : State) : Bool :=
  match t with
  | .sxp => s.sxp.timerArmed
  | .eraseAccept => s.flash.acceptArmed
  | .flashDone => s.flash.doneArmed

/-- `arm(T_SXP, d)` (R605). -/
def armSxp (_delay : Nat) (x : Sxp) : Sxp := { x with timerArmed := true }

/-- `arm(T_ERASE_ACCEPT, d)` (R605). -/
def armAccept (_delay : Nat) (f : Flash) : Flash := { f with acceptArmed := true }

/-- `arm(T_FLASH_DONE, d)` (R605). -/
def armDone (_delay : Nat) (f : Flash) : Flash := { f with doneArmed := true }

/-! ### Internal faults: the block's stop (R603) -/

/-- `fault(f)`: the fault is recorded and the pass that called it ends (R603). -/
def raiseFault (f : InternalFault) (s : State) : State :=
  { s with faulted := some f, sxp := { s.sxp with running := false } }

/-! ### Posting: the block's "trap entry" (R615) -/

/-- The output mailboxes after a posting: `stage_out[i]` where bit `i` of the mask is set (R42, R442, D60). -/
def postedOut (mask : BitVec 8) (stage mbout : Vector Word 8) : Vector Word 8 :=
  .ofFn fun i => if mask.getLsbD i then stage[i] else mbout[i]

/-- The first part of a posting: SEMA_LOCK is taken and the staged outputs are copied (R442, R615 step 1). -/
def postOutputs (s : State) : State :=
  { s with reg := { s.reg with
      sema := s.reg.sema ||| Param.semaLock
      mbout := postedOut s.sxp.mboutMask s.sxp.stageOut s.reg.mbout } }

/-- `mbout[REQ_OUT_SLOT] <- req_out` (R431, R440, R443). -/
def publishReqOut (s : State) : State :=
  { s with reg := { s.reg with mbout := s.reg.mbout.set Param.reqSlot s.sxp.reqOut } }

/-- The producer moves on after a response entry is written (R441). -/
def advanceRespIn (s : State) : State :=
  let next := ringAdd s.sxp.respIn 1 s.sxp.respLen
  { s with
    sxp := { s.sxp with respIn := next }
    reg := { s.reg with mbout := s.reg.mbout.set Param.respSlot next } }

/-- `write_resp()`: the second part of a posting, the entry first and then the producer (R441, R103, R615 step 2). -/
def writeResp (r : Response) (s : State) : Dma Unit :=
  match memWrite s (slotAddr s.sxp.respBase s.sxp.respIn) (responseBytes r) with
  | .ok () t => .ok () (advanceRespIn t)
  | .error t => .error t

/-- The last part of a posting: `ISR_RISC_INT` is set (R443, R615 step 3). -/
def raiseInt (s : State) : State := { s with reg := { s.reg with isr := isrRaised s.reg.isr } }

/-- The engine forgets the command that it posted and is `Idle` again (R440, R443). -/
def backToIdle (s : State) : State :=
  { s with sxp := { s.sxp with pkt := none, pktResp := none, postKind := none, state := .idle } }

/-! ### Return from a posting (R616) -/

/-- The host's write to SEMA (R209, R616 step 2), before it resumes the engine. -/
def storeSema (v : Word) (s : State) : State := { s with reg := { s.reg with sema := semaWritten s.reg.sema v } }

/-- `CLEAR_RISC_INT` (R225, R616 step 3). -/
def clearInt (s : State) : State := { s with reg := { s.reg with isr := isrCleared s.reg.isr } }

/-! ### Parameters of targets and buses (R60, R61) -/

/-- The bus of a one-bit bus number. -/
def busIdx (b : BitVec 1) : Fin 2 := b.toFin

/-- The target of a target id. -/
def targetIdx (t : BitVec 7) : Fin 128 := t.toFin

/-- `tparam[bus][target]`, with the device-queue words beside it. -/
def targetParam (x : Sxp) (b : Fin 2) (t : Fin 128) : TargetParam := x.buses[b].targets[t]

/-- A target's parameters, replaced. -/
def setTargetParam (b : Fin 2) (t : Fin 128) (p : TargetParam) (s : State) : State :=
  let bus := s.sxp.buses[b]
  { s with sxp := { s.sxp with buses := s.sxp.buses.set b { bus with targets := bus.targets.set t p } } }

/-- `bparam[bus][k]`. -/
def busParam (x : Sxp) (b : Fin 2) (k : BParam) : Word := x.buses[b].params[bparamIdx k]

/-- `bparam[bus][k] <- v`. -/
def setBusParam (b : Fin 2) (k : BParam) (v : Word) (s : State) : State :=
  let bus := s.sxp.buses[b]
  { s with sxp := { s.sxp with buses := s.sxp.buses.set b { bus with params := bus.params.set (bparamIdx k) v } } }

/-! ### Reset (R700) -/

/-- `controller_reset()`: everything but the flash unit, the fault, `running` and the environment (R700, R702). -/
def controllerReset (s : State) : State :=
  { s with
    reg := Regs.reset s.inst
    sxp := { Sxp.reset s.inst with running := s.sxp.running }
    fw := fwReset }

/-! ### The flash address -/

/-- `FLASH_A16(state)`: a parameter function of the block's own state, with no body (R131, D37; log 14). The environment is
no argument, so no flash access depends on an NVRAM answer (R77). -/
opaque flashA16 : Inst → Regs → Sxp → List (Nat × Word) → Flash → Option InternalFault → Bool

/-- `fa` of a FLASH_DATA access: the bit A16, which is 0 for 65536 bytes, and FLASH_ADDR (R131). -/
def flashAddrOf (s : State) : FlashAddr where
  a16 := match s.inst.flashSize with
    | .k64 => false
    | .k128 => flashA16 s.inst s.reg s.sxp s.fw s.flash s.faulted
  low := s.reg.flashAddr

end Sys2Proof.Machine
end

