-- ==== Sys2Proof/Machine/FlashUnit.lean ====
section
/-! DEFINITION. The flash command-sequence controller (spec/43_flash.md): write cycles, read cycles and the two flash
timers, as functions of the flash unit alone (R520). -/

namespace Sys2Proof.Machine

/-- `fl_array[fa]`. -/
def flashByte (z : FlashSize) (fa : FlashAddr) (f : Flash) : Byte := Memory.read flashDefault f.array (flashIndex z fa)

/-- A byte address is in a block that `sel` selects and that is not protected (R509, R515). -/
def erasable (z : FlashSize) (sel prot : Vector Bool 8) (a : Nat) : Bool :=
  (List.finRange 8).any fun k =>
    sel[k] && !prot[k] && k.val * blockSize z ≤ a && a < (k.val + 1) * blockSize z

/-- The selected, unprotected blocks erased: their bytes read 0xFF (R509, R515). -/
def eraseBlocks (z : FlashSize) (sel prot : Vector Bool 8) (array : List Host.Cell) : List Host.Cell :=
  array.filter fun e => !erasable z sel prot e.1

/-- The flash in another mode, at cycle 0 (R518). -/
def flMode (m : FlMode) (f : Flash) : Flash := { f with mode := m, cycle := 0 }

/-- The sequence at another cycle, the mode unchanged (R502 to R507). -/
def flCycle (c : Fin 6) (f : Flash) : Flash := { f with cycle := c }

/-- The read-array command (R501). -/
def flReadArray (f : Flash) : Flash :=
  flMode .readArray
    { f with acceptArmed := false, doneArmed := false, pending := .replicate 8 false, status := 0 }

/-- Program one byte (R512). -/
def flProgram (z : FlashSize) (fa : FlashAddr) (d : Byte) (f : Flash) : Flash :=
  if f.prot[flashBlock z fa] then flMode .programming (armDone Config.programDelay f)
  else if programSetsBit d (flashByte z fa f) then
    flMode .programError { f with status := flStatusError f.status }
  else
    flMode .programming (armDone Config.programDelay
      { f with array := Memory.write flashDefault f.array (flashIndex z fa) d })

/-- Start of a chip erase (R515). -/
def flChipErase (z : FlashSize) (f : Flash) : Flash :=
  flMode .chipErasing (armDone Config.chipEraseDelay
    { f with array := eraseBlocks z (.replicate 8 true) f.prot f.array })

/-- A block queued alone for erase, at the confirm cycle (R507). -/
def flQueueFirst (z : FlashSize) (fa : FlashAddr) (f : Flash) : Flash :=
  flMode .eraseAccept (armAccept Config.eraseAcceptDelay
    { f with pending := (Vector.replicate 8 false).set (flashBlock z fa) true })

/-- A further block queued in the window, which restarts (R508). -/
def flQueueMore (z : FlashSize) (fa : FlashAddr) (f : Flash) : Flash :=
  armAccept Config.eraseAcceptDelay { f with pending := f.pending.set (flashBlock z fa) true }

/-- The command byte of cycle 2 at `UNLOCK1` (R504). -/
def flCommand (d : Byte) (f : Flash) : Flash :=
  if d = Param.cmdAutoselect then flMode .autoselect f
  else if d = Param.cmdProgram then flMode .programSetup f
  else if d = Param.cmdEraseSetup then flCycle 3 f
  else flCycle 0 f

/-- The erase confirm of cycle 5 (R507). -/
def flConfirm (n : Inst) (fa : FlashAddr) (d : Byte) (f : Flash) : Flash :=
  if d = Param.cmdChipErase ∧ cmdMatch n.flashVariant fa (unlock1 n.flashVariant) then flChipErase n.flashSize f
  else if d = Param.cmdBlockErase then flQueueFirst n.flashSize fa f
  else flCycle 0 f

/-- The unlock and command sequence, by cycle (R502 to R507). -/
def flSequence (n : Inst) (fa : FlashAddr) (d : Byte) (f : Flash) : Flash :=
  let at1 := cmdMatch n.flashVariant fa (unlock1 n.flashVariant)
  let at2 := cmdMatch n.flashVariant fa (unlock2 n.flashVariant)
  match f.cycle with
  | 0 => if d = Param.cmdUnlock1 ∧ at1 then flCycle 1 f else f
  | 1 => if d = Param.cmdUnlock2 ∧ at2 then flCycle 2 f else flCycle 0 f
  | 2 => if at1 then flCommand d f else flCycle 0 f
  | 3 => if d = Param.cmdUnlock1 ∧ at1 then flCycle 4 f else flCycle 0 f
  | 4 => if d = Param.cmdUnlock2 ∧ at2 then flCycle 5 f else flCycle 0 f
  | 5 => flConfirm n fa d f

/-- `flash_write(fa, d)` (R500). -/
def flWrite (n : Inst) (fa : FlashAddr) (d : Byte) (f : Flash) : Flash :=
  match f.mode with
  | .programSetup => flProgram n.flashSize fa d f
  | .programming => f
  | .eraseAccept =>
    if d = Param.cmdReadArray then flReadArray f
    else if d = Param.cmdBlockErase then flQueueMore n.flashSize fa f
    else f
  | .erasing | .chipErasing | .programError => if d = Param.cmdReadArray then flReadArray f else f
  | .readArray | .autoselect => if d = Param.cmdReadArray then flReadArray f else flSequence n fa d f

/-- `autoselect(fa)` (R163, R510). -/
def autoselectByte (n : Inst) (fa : FlashAddr) (f : Flash) : Byte :=
  match flashIndex n.flashSize fa % 4 with
  | 0 => manufId n.flashVariant
  | 1 => modelId n.flashVariant
  | 2 => if f.prot[flashBlock n.flashSize fa] then 0x01 else 0x00
  | _ => 0x00

/-- The flash after a status read: the toggle bit flips first (R511). -/
def flStatusRead (f : Flash) : Flash := { f with status := flStatusToggled f.status }

/-- `flash_read(fa)`: the byte and the flash after it (R510, R511). -/
def flRead (n : Inst) (fa : FlashAddr) (f : Flash) : Byte × Flash :=
  match f.mode with
  | .readArray | .programSetup => (flashByte n.flashSize fa f, f)
  | .autoselect => (autoselectByte n fa f, f)
  | .programming | .programError | .eraseAccept | .erasing | .chipErasing =>
    ((flStatusRead f).status, flStatusRead f)

/-- How many blocks are queued: `size(fl_pending)` (R509). -/
def pendingCount (f : Flash) : Nat := f.pending.toList.count true

/-- `T_ERASE_ACCEPT` fires (R509). -/
def flAcceptFire (n : Inst) (f : Flash) : Flash :=
  flMode .erasing (armDone (Config.blockEraseDelay * pendingCount f)
    { f with
      acceptArmed := false
      status := flStatusTimeout f.status
      array := eraseBlocks n.flashSize f.pending f.prot f.array
      pending := .replicate 8 false })

/-- `T_FLASH_DONE` fires (R514). -/
def flDoneFire (f : Flash) : Flash := flMode .readArray { f with doneArmed := false, status := 0 }

/-! ### The unit in the block -/

/-- A flash write cycle of the byte `d` at the address FLASH_ADDR gives (R216). -/
def flashWrite (d : Byte) (s : State) : State := { s with flash := flWrite s.inst (flashAddrOf s) d s.flash }

/-- A flash read cycle at the address FLASH_ADDR gives: the byte goes to the host, extended with zeros (R215). -/
def flashRead (s : State) : State :=
  let (v, f) := flRead s.inst (flashAddrOf s) s.flash
  returnRead (v.zeroExtend 16) { s with flash := f }

end Sys2Proof.Machine
end

