-- ==== Sys2Proof/Machine/Mailbox.lean ====
section
/-! DEFINITION. The mailbox command interpreter (spec/41_mailbox.md): what each opcode does to the state and answers. An
answer is `Pending`, or a status and the output mailboxes beside `mbout[0]` (R300). -/

namespace Sys2Proof.Machine

/-- What `Mailbox()` returns (R300), with the state that its opcode leaves. -/
inductive MboxAnswer where
  | pending (s : State)
  | result (status : Word) (outs : List (Fin 8 × Word)) (s : State)

/-- Status `COMPLETE` with some outputs. -/
def completed (outs : List (Fin 8 × Word)) (s : State) : MboxAnswer := .result Param.complete outs s

/-- Status `PARAM_ERROR`, nothing changed. -/
def badParam (s : State) : MboxAnswer := .result Param.paramError [] s

/-- An opcode that checks `bt_ok(mbin[1])`: `PARAM_ERROR`, with nothing changed, when the check fails (R384). -/
def checkedBt (s : State) (a : MboxAnswer) : MboxAnswer := if btOk s.inst s.reg.mbin[1] then a else badParam s

/-! ### Firmware memory -/

/-- The block load of `mbin[4]` words from host address `h` to `fw[mbin[1]]` (R302, R309, R381). -/
def loadRam (h : Addr) (s : State) : MboxAnswer :=
  let a := s.reg.mbin[1]
  let n := s.reg.mbin[4].toNat
  if fwOk a n then
    match memRead s h (2 * n) with
    | .ok b t => completed [] (fwWriteWords t a (wordsOf b))
    | .error t => .result Param.hostInterfaceError [] t
  else badParam s

/-- The block dump of `mbin[4]` words from `fw[mbin[1]]` to host address `h` (R303, R310, R381). -/
def dumpRam (h : Addr) (s : State) : MboxAnswer :=
  let a := s.reg.mbin[1]
  let n := s.reg.mbin[4].toNat
  if fwOk a n then
    match memWrite s h ((fwReadWords s a n).flatMap put16) with
    | .ok () t => completed [] t
    | .error t => .result Param.hostInterfaceError [] t
  else badParam s

/-! ### Queues -/

/-- The request ring of `mbin[1]` entries at `h`: fails on a null address or a zero length (R314, R316). -/
def initReqQueue (h : Addr) (s : State) : MboxAnswer :=
  if h = 0 ∨ s.reg.mbin[1] = 0 then badParam s
  else completed [(Param.reqSlot, 0)]
    { s with sxp := { s.sxp with reqBase := h, reqLen := s.reg.mbin[1], reqOut := 0, reqInit := true, abortQ := [] } }

/-- The response ring of `mbin[1]` entries at `h`: fails on a null address or a zero length (R315, R317). -/
def initResQueue (h : Addr) (s : State) : MboxAnswer :=
  if h = 0 ∨ s.reg.mbin[1] = 0 then badParam s
  else completed [(Param.respSlot, 0)]
    { s with sxp := { s.sxp with respBase := h, respLen := s.reg.mbin[1], respIn := 0, respInit := true } }

/-- A direct request is queued and the answer is `Pending` (R319, R334, R340). -/
def queueDirect (d : DirectReq) (s : State) : MboxAnswer := .pending { s with sxp := { s.sxp with directReq := some d } }

/-! ### Command control -/

/-- A command of the bus and target of a bus/target/LUN word (R323). -/
def onTarget (w : Word) (b : List Byte) : Bool := pathOf b == btBus w && targetOf b == btTarget w

/-- A command of the bus, target and LUN of a bus/target/LUN word (R321, R322). -/
def onDevice (w : Word) (b : List Byte) : Bool := onTarget w b && lunOf b == btLun w

/-- The slot `s` is put in the abort queue, if it may be (R324). -/
def markAborted (slot : Word) (s : State) : State :=
  if slot ∉ s.sxp.abortQ ∧ s.sxp.abortQ.length < Config.abortQLen then
    { s with sxp := { s.sxp with abortQ := s.sxp.abortQ ++ [slot] } }
  else s

/-- The scan of `n` slots from `slot` on: a DMA error ends it (R324, D43). -/
def abortSlots (m : List Byte → Bool) : Nat → Word → State → State
  | 0, _, s => s
  | n + 1, slot, s =>
    match memRead s (slotAddr s.sxp.reqBase slot) Param.iocbSize with
    | .ok b t =>
      abortSlots m n (ringAdd slot 1 s.sxp.reqLen) (if isCommand b && m b then markAborted slot t else t)
    | .error t => t

/-- `abort_scan(m)` (R324). -/
def abortScan (m : List Byte → Bool) (s : State) : State :=
  if ringsActive s.sxp then
    abortSlots m (ringPending s.reg.mbin[Param.reqSlot] s.sxp.reqOut s.sxp.reqLen) s.sxp.reqOut s
  else s

/-- `Target(0, t).Reset()` for each of `n` targets from `t` on that is present (R325). -/
def resetTargets (t : Nat) : Nat → State → State
  | 0, s => s
  | n + 1, s =>
    match drawPresent s with
    | (true, u) => resetTargets (t + 1) n (recordCall (.targetReset t) u)
    | (false, u) => resetTargets (t + 1) n u

/-! ### Bus parameters (R372) -/

/-- A GET of key `k`: one word for each bus (R372). -/
def getBusParam (k : BParam) (s : State) : MboxAnswer :=
  match s.inst.buses with
  | .one => completed [(1, busParam s.sxp 0 k)] s
  | .two => completed [(1, busParam s.sxp 0 k), (2, busParam s.sxp 1 k)] s

/-- A SET of key `k`: one word for each bus (R372). -/
def setBusParams (k : BParam) (s : State) : MboxAnswer :=
  match s.inst.buses with
  | .one => completed [] (setBusParam 0 k s.reg.mbin[1] s)
  | .two => completed [] (setBusParam 1 k s.reg.mbin[2] (setBusParam 0 k s.reg.mbin[1] s))

/-! ### The opcodes -/

/-- `NO_OP` (R301). -/
def bodyNoOp (s : State) : MboxAnswer :=
  completed [] s

/-- `LOAD_RAM` (R302). -/
def bodyLoadRam (s : State) : MboxAnswer :=
  loadRam (hostAddr32 s.reg.mbin) s

/-- `EXEC_FIRMWARE`: the block runs no firmware code (R311). -/
def bodyExecFirmware (s : State) : MboxAnswer :=
  completed [] s

/-- `DUMP_RAM` (R303). -/
def bodyDumpRam (s : State) : MboxAnswer :=
  dumpRam (hostAddr32 s.reg.mbin) s

/-- `WRITE_RAM_WORD` (R304). -/
def bodyWriteRamWord (s : State) : MboxAnswer :=
  completed [] (fwWrite s s.reg.mbin[1] s.reg.mbin[2])

/-- `READ_RAM_WORD` (R305). -/
def bodyReadRamWord (s : State) : MboxAnswer :=
  completed [(2, fwRead s s.reg.mbin[1])] s

/-- `MAILBOX_REG_TEST` (R313). -/
def bodyMailboxRegTest (s : State) : MboxAnswer :=
  completed [(1, s.reg.mbin[1]), (2, s.reg.mbin[2]), (3, s.reg.mbin[3]), (4, s.reg.mbin[4]),
    (5, s.reg.mbin[5]), (6, s.reg.mbin[6]), (7, s.reg.mbin[7])] s

/-- `VERIFY_CHECKSUM`: the sum is posted whether or not it is 0 (R307). -/
def bodyVerifyChecksum (s : State) : MboxAnswer :=
  let a := s.reg.mbin[1]
  let len := (fwRead s (a + Param.checksumLenOffset)).toNat
  if fwOk a len then
    let sum := (fwReadWords s a len).foldl (· + ·) 0
    .result (if sum = 0 then Param.complete else Param.testFailed) [(2, sum)] s
  else badParam s

/-- `ABOUT_FIRMWARE` (R312). -/
def bodyAboutFirmware (s : State) : MboxAnswer :=
  completed [(1, Config.fwVerMajor), (2, Config.fwVerMinor), (3, Config.fwVerSub)] s

/-- `INIT_REQ_QUEUE` (R314). -/
def bodyInitReqQueue (s : State) : MboxAnswer :=
  initReqQueue (hostAddr32 s.reg.mbin) s

/-- `INIT_RES_QUEUE` (R315). -/
def bodyInitResQueue (s : State) : MboxAnswer :=
  initResQueue (hostAddr32 s.reg.mbin) s

/-- `EXECUTE_IOCB` (R319). -/
def bodyExecuteIocb (s : State) : MboxAnswer :=
  queueDirect (.exec (hostAddr32 s.reg.mbin) false) s

/-- `WAKE_UP` (R332). -/
def bodyWakeUp (s : State) : MboxAnswer :=
  completed [] s

/-- `STOP_FIRMWARE` (R333). -/
def bodyStopFirmware (s : State) : MboxAnswer :=
  completed [] s

/-- `ABORT`: the pending entries with the handle, path, target and LUN (R321). -/
def bodyAbort (s : State) : MboxAnswer :=
  let w := s.reg.mbin[1]
  checkedBt s <| completed [] <| abortScan
    (fun b => handleOf b == s.reg.mbin[2] ++ s.reg.mbin[3] && onDevice w b) s

/-- `ABORT_DEVICE`: the pending entries of a path, target and LUN (R322). -/
def bodyAbortDevice (s : State) : MboxAnswer :=
  checkedBt s <| completed [] <| abortScan (onDevice s.reg.mbin[1]) s

/-- `ABORT_TARGET`: the pending entries of a path and target, of any LUN (R323). -/
def bodyAbortTarget (s : State) : MboxAnswer :=
  checkedBt s <| completed [] <| abortScan (onTarget s.reg.mbin[1]) s

/-- `BUS_RESET`: the present targets of bus 0 are reset, and none of another bus (R325). -/
def bodyBusReset (s : State) : MboxAnswer :=
  if numBuses s.inst.buses ≤ s.reg.mbin[2].toNat then badParam s
  else if s.reg.mbin[2] = 0 then completed [] (resetTargets 0 s.inst.numTargets s)
  else completed [] s

/-- `STOP_QUEUE`: only the check (R326). -/
def bodyStopQueue (s : State) : MboxAnswer :=
  checkedBt s <| completed [] s

/-- `START_QUEUE`: only the check (R327). -/
def bodyStartQueue (s : State) : MboxAnswer :=
  checkedBt s <| completed [] s

/-- `SINGLE_STEP_QUEUE`: only the check (R328). -/
def bodySingleStepQueue (s : State) : MboxAnswer :=
  checkedBt s <| completed [] s

/-- `ABORT_QUEUE`: as `ABORT_DEVICE` (R329). -/
def bodyAbortQueue (s : State) : MboxAnswer :=
  checkedBt s <| completed [] <| abortScan (onDevice s.reg.mbin[1]) s

/-- `GET_DEV_QUEUE_STATUS`: no command is queued at a device (R330). -/
def bodyGetDevQueueStatus (s : State) : MboxAnswer :=
  checkedBt s <| completed [(2, 0)] s

/-- `GET_FIRMWARE_STATUS` (R331). -/
def bodyGetFirmwareStatus (s : State) : MboxAnswer :=
  completed [(1, 0), (2, Config.fwMaxCmds)] s

/-- `GET_INIT_SCSI_ID` (R350). -/
def bodyGetInitScsiId (s : State) : MboxAnswer :=
  getBusParam .initId s

/-- `GET_SELECT_TIMEOUT` (R351). -/
def bodyGetSelectTimeout (s : State) : MboxAnswer :=
  getBusParam .selTimeout s

/-- `GET_RETRY_COUNT`: two words for each bus (R352). -/
def bodyGetRetryCount (s : State) : MboxAnswer :=
  let one : List (Fin 8 × Word) := [(1, busParam s.sxp 0 .retryCount), (2, busParam s.sxp 0 .retryDelay)]
  match s.inst.buses with
  | .one => completed one s
  | .two => completed (one ++ [(6, busParam s.sxp 1 .retryCount), (7, busParam s.sxp 1 .retryDelay)]) s

/-- `GET_TAG_AGE_LIMIT` (R353). -/
def bodyGetTagAgeLimit (s : State) : MboxAnswer :=
  getBusParam .tagAge s

/-- `GET_CLOCK_RATE`: one word for the chip (R354). -/
def bodyGetClockRate (s : State) : MboxAnswer :=
  completed [(1, busParam s.sxp 0 .clockRate)] s

/-- `GET_ACT_NEG_STATE` (R355). -/
def bodyGetActNegState (s : State) : MboxAnswer :=
  getBusParam .actNeg s

/-- `GET_ASYNC_DATA_SETUP_TIME` (R356). -/
def bodyGetAsyncDataSetupTime (s : State) : MboxAnswer :=
  getBusParam .asyncSetup s

/-- `GET_PCI_PARAMS`: one word (R357). -/
def bodyGetPciParams (s : State) : MboxAnswer :=
  completed [(1, busParam s.sxp 0 .pciParams)] s

/-- `GET_TARGET_PARAMS` (R358). -/
def bodyGetTargetParams (s : State) : MboxAnswer :=
  let w := s.reg.mbin[1]
  let p := targetParam s.sxp (busIdx (btBus w)) (targetIdx (btTarget w))
  checkedBt s <| completed [(1, w), (2, p.flags), (3, p.syncOffset ++ p.syncPeriod)] s

/-- `GET_DEV_QUEUE_PARAMS` (R359). -/
def bodyGetDevQueueParams (s : State) : MboxAnswer :=
  let w := s.reg.mbin[1]
  let p := targetParam s.sxp (busIdx (btBus w)) (targetIdx (btTarget w))
  checkedBt s <| completed [(2, p.queue0), (3, p.queue1)] s

/-- `GET_RESET_DELAY_PARAMS` (R360). -/
def bodyGetResetDelayParams (s : State) : MboxAnswer :=
  getBusParam .resetDelay s

/-- `SET_INIT_SCSI_ID` (R361). -/
def bodySetInitScsiId (s : State) : MboxAnswer :=
  setBusParams .initId s

/-- `SET_SELECT_TIMEOUT` (R362). -/
def bodySetSelectTimeout (s : State) : MboxAnswer :=
  setBusParams .selTimeout s

/-- `SET_RETRY_COUNT`: two words for each bus (R363). -/
def bodySetRetryCount (s : State) : MboxAnswer :=
  let t := setBusParam 0 .retryDelay s.reg.mbin[2] (setBusParam 0 .retryCount s.reg.mbin[1] s)
  match s.inst.buses with
  | .one => completed [] t
  | .two => completed [] (setBusParam 1 .retryDelay s.reg.mbin[7] (setBusParam 1 .retryCount s.reg.mbin[6] t))

/-- `SET_TAG_AGE_LIMIT` (R364). -/
def bodySetTagAgeLimit (s : State) : MboxAnswer :=
  setBusParams .tagAge s

/-- `SET_CLOCK_RATE`: one word for the chip (R365). -/
def bodySetClockRate (s : State) : MboxAnswer :=
  completed [] (setBusParam 0 .clockRate s.reg.mbin[1] s)

/-- `SET_ACT_NEG_STATE` (R366). -/
def bodySetActNegState (s : State) : MboxAnswer :=
  setBusParams .actNeg s

/-- `SET_ASYNC_DATA_SETUP_TIME` (R367). -/
def bodySetAsyncDataSetupTime (s : State) : MboxAnswer :=
  setBusParams .asyncSetup s

/-- `SET_PCI_PARAMS`: one word (R368). -/
def bodySetPciParams (s : State) : MboxAnswer :=
  completed [] (setBusParam 0 .pciParams s.reg.mbin[1] s)

/-- `SET_TARGET_PARAMS` (R369). -/
def bodySetTargetParams (s : State) : MboxAnswer :=
  let w := s.reg.mbin[1]
  let b := busIdx (btBus w)
  let t := targetIdx (btTarget w)
  checkedBt s <| completed [] <| setTargetParam b t
    { targetParam s.sxp b t with
      flags := s.reg.mbin[2]
      syncPeriod := s.reg.mbin[3].extractLsb' 0 8
      syncOffset := s.reg.mbin[3].extractLsb' 8 8 } s

/-- `SET_DEV_QUEUE_PARAMS` (R370). -/
def bodySetDevQueueParams (s : State) : MboxAnswer :=
  let w := s.reg.mbin[1]
  let b := busIdx (btBus w)
  let t := targetIdx (btTarget w)
  checkedBt s <| completed [] <| setTargetParam b t
    { targetParam s.sxp b t with queue0 := s.reg.mbin[2], queue1 := s.reg.mbin[3] } s

/-- `SET_RESET_DELAY_PARAMS` (R371). -/
def bodySetResetDelayParams (s : State) : MboxAnswer :=
  setBusParams .resetDelay s

/-- `RETURN_BIOS_BLOCK_ADDR` (R335). -/
def bodyReturnBiosBlockAddr (s : State) : MboxAnswer :=
  completed [(1, Config.biosBlockAddr)] s

/-- `WRITE_FOUR_RAM_WORDS` (R306). -/
def bodyWriteFourRamWords (s : State) : MboxAnswer :=
  let a := s.reg.mbin[1]
  if fwOk a 4 then completed [] (fwWriteWords s a [s.reg.mbin[2], s.reg.mbin[3], s.reg.mbin[4], s.reg.mbin[5]])
  else badParam s

/-- `EXECUTE_BIOS_IOCB` (R340). -/
def bodyExecuteBiosIocb (s : State) : MboxAnswer :=
  queueDirect (.bios (hostAddr32 s.reg.mbin)) s

/-- `SET_FIRMWARE_FEATURES` (R342). -/
def bodySetFirmwareFeatures (s : State) : MboxAnswer :=
  completed [] { s with sxp := { s.sxp with fastPost := s.reg.mbin[1].getLsbD Param.fwfFastPostBit } }

/-- `GET_FIRMWARE_FEATURES` (R343). -/
def bodyGetFirmwareFeatures (s : State) : MboxAnswer :=
  completed [(1, featureWord s.sxp.fastPost)] s

/-- `LOAD_RAM_A64` (R309). -/
def bodyLoadRamA64 (s : State) : MboxAnswer :=
  loadRam (hostAddr64 s.reg.mbin) s

/-- `DUMP_RAM_A64` (R310). -/
def bodyDumpRamA64 (s : State) : MboxAnswer :=
  dumpRam (hostAddr64 s.reg.mbin) s

/-- `INIT_REQ_QUEUE_A64` (R316). -/
def bodyInitReqQueueA64 (s : State) : MboxAnswer :=
  initReqQueue (hostAddr64 s.reg.mbin) s

/-- `INIT_RES_QUEUE_A64` (R317). -/
def bodyInitResQueueA64 (s : State) : MboxAnswer :=
  initResQueue (hostAddr64 s.reg.mbin) s

/-- `EXECUTE_IOCB_A64`: the address length must be one ring entry (R334). -/
def bodyExecuteIocbA64 (s : State) : MboxAnswer :=
  if s.reg.mbin[1] ≠ .ofNat 16 Param.iocbSize then badParam s
  else queueDirect (.exec (hostAddr64 s.reg.mbin) true) s

/-- `READ_FOUR_RAM_WORDS` (R308). -/
def bodyReadFourRamWords (s : State) : MboxAnswer :=
  let a := s.reg.mbin[1]
  if fwOk a 4 then
    completed [(2, fwRead s a), (3, fwRead s (a + 1)), (4, fwRead s (a + 2)), (5, fwRead s (a + 3))] s
  else badParam s

/-- An opcode equal to no `OP_X`: status `INVALID`, nothing done (R380). -/
def bodyInvalid (s : State) : MboxAnswer := .result Param.invalid [] s

/-- The rules of the opcodes that have a candidate (R135). -/
def candidateBodies : List (Word × (State → MboxAnswer)) :=
  [(Param.opNoOp, bodyNoOp),
   (Param.opLoadRam, bodyLoadRam),
   (Param.opExecFirmware, bodyExecFirmware),
   (Param.opDumpRam, bodyDumpRam),
   (Param.opWriteRamWord, bodyWriteRamWord),
   (Param.opReadRamWord, bodyReadRamWord),
   (Param.opMailboxRegTest, bodyMailboxRegTest),
   (Param.opVerifyChecksum, bodyVerifyChecksum),
   (Param.opAboutFirmware, bodyAboutFirmware),
   (Param.opInitReqQueue, bodyInitReqQueue),
   (Param.opInitResQueue, bodyInitResQueue),
   (Param.opExecuteIocb, bodyExecuteIocb),
   (Param.opWakeUp, bodyWakeUp),
   (Param.opStopFirmware, bodyStopFirmware),
   (Param.opAbort, bodyAbort),
   (Param.opAbortDevice, bodyAbortDevice),
   (Param.opAbortTarget, bodyAbortTarget),
   (Param.opBusReset, bodyBusReset),
   (Param.opStopQueue, bodyStopQueue),
   (Param.opStartQueue, bodyStartQueue),
   (Param.opSingleStepQueue, bodySingleStepQueue),
   (Param.opAbortQueue, bodyAbortQueue),
   (Param.opGetDevQueueStatus, bodyGetDevQueueStatus),
   (Param.opGetFirmwareStatus, bodyGetFirmwareStatus),
   (Param.opGetInitScsiId, bodyGetInitScsiId),
   (Param.opGetSelectTimeout, bodyGetSelectTimeout),
   (Param.opGetRetryCount, bodyGetRetryCount),
   (Param.opGetTagAgeLimit, bodyGetTagAgeLimit),
   (Param.opGetClockRate, bodyGetClockRate),
   (Param.opGetActNegState, bodyGetActNegState),
   (Param.opGetAsyncDataSetupTime, bodyGetAsyncDataSetupTime),
   (Param.opGetPciParams, bodyGetPciParams),
   (Param.opGetTargetParams, bodyGetTargetParams),
   (Param.opGetDevQueueParams, bodyGetDevQueueParams),
   (Param.opGetResetDelayParams, bodyGetResetDelayParams),
   (Param.opSetInitScsiId, bodySetInitScsiId),
   (Param.opSetSelectTimeout, bodySetSelectTimeout),
   (Param.opSetRetryCount, bodySetRetryCount),
   (Param.opSetTagAgeLimit, bodySetTagAgeLimit),
   (Param.opSetClockRate, bodySetClockRate),
   (Param.opSetActNegState, bodySetActNegState),
   (Param.opSetAsyncDataSetupTime, bodySetAsyncDataSetupTime),
   (Param.opSetPciParams, bodySetPciParams),
   (Param.opSetTargetParams, bodySetTargetParams),
   (Param.opSetDevQueueParams, bodySetDevQueueParams),
   (Param.opSetResetDelayParams, bodySetResetDelayParams),
   (Param.opReturnBiosBlockAddr, bodyReturnBiosBlockAddr),
   (Param.opWriteFourRamWords, bodyWriteFourRamWords),
   (Param.opExecuteBiosIocb, bodyExecuteBiosIocb),
   (Param.opSetFirmwareFeatures, bodySetFirmwareFeatures),
   (Param.opGetFirmwareFeatures, bodyGetFirmwareFeatures),
   (Param.opLoadRamA64, bodyLoadRamA64),
   (Param.opDumpRamA64, bodyDumpRamA64),
   (Param.opInitReqQueueA64, bodyInitReqQueueA64),
   (Param.opInitResQueueA64, bodyInitResQueueA64),
   (Param.opExecuteIocbA64, bodyExecuteIocbA64)]

/-- Dispatch by the whole opcode word (R132, R300, R135). -/
def mailboxBodies (n : OpenNumbers) : List (Word × (State → MboxAnswer)) :=
  candidateBodies ++ [(n.readFour, bodyReadFourRamWords)]

/-- `Mailbox()` for an opcode (R300). -/
def mailboxBody (n : OpenNumbers) (op : Word) : State → MboxAnswer :=
  match (mailboxBodies n).find? fun e => e.1 == op with
  | some e => e.2
  | none => bodyInvalid

end Sys2Proof.Machine
end

