-- ==== Sys2Proof/Machine/Sxp.lean ====
section
/-! DEFINITION. The SXP engine: ring manager, descriptor processor and step loop (spec/42_sxp.md). One definition for
the step of each `sxp_state`, `engineStep` to choose among them, and `runPass`, `kick`, `resume` for the loop of R400. -/

namespace Sys2Proof.Machine

/-- What one step of the engine does: it goes on, suspends with a reason, or raises an internal fault (R400, R447). -/
inductive EngineStep where
  | go (s : State)
  | suspend (s : State) (r : Suspend)
  | fault (s : State) (f : InternalFault)

/-- The engine in another `sxp_state`. -/
def toState (x : SxpState) (s : State) : State := { s with sxp := { s.sxp with state := x } }

/-- A response is ready and a delay is staged: on to `CompleteCommand` (R404, R411, R412, R415, R420, R426). -/
def toComplete (r : Response) (delay : Nat) (s : State) : State :=
  { s with sxp := { s.sxp with pktResp := some r, postDelay := delay, state := .completeCommand } }

/-! ### Idle: a mailbox command (R401) -/

/-- The outputs of an answer as eight words; a word no output names is 0 (log 26). -/
def stagedWords (status : Word) (outs : List (Fin 8 × Word)) : Vector Word 8 :=
  outs.foldl (fun v e => v.set e.1 e.2) ((Vector.replicate 8 (0 : Word)).set 0 status)

/-- The bitmap of an answer: bit 0 and a bit for each output (R300). -/
def outMask (outs : List (Fin 8 × Word)) : BitVec 8 :=
  outs.foldl (fun m e => m ||| (1 : BitVec 8) <<< e.1.val) 1

/-- The result of a mailbox command is staged for its posting (R401). -/
def stageResult (status : Word) (outs : List (Fin 8 × Word)) (s : State) : State :=
  { s with sxp := { s.sxp with
      stageOut := stagedWords status outs
      mboutMask := outMask outs
      postKind := some .mboxResult
      postDelay := Config.mboxOverhead
      state := .scheduleMboxInterrupt } }

/-- The engine takes the pending mailbox command and `body` interprets it; `Pending` leaves the engine in `Idle`
(R401). -/
def takeMailbox (body : State → MboxAnswer) (s : State) : State :=
  match body { s with sxp := { s.sxp with mboxCmdPending := false } } with
  | .pending t => t
  | .result status outs t => stageResult status outs t

/-! ### Idle: direct requests and the ring (R402 to R406) -/

/-- What the engine finds when no mailbox command is pending. -/
inductive Fetch where
  | nothing (r : Suspend)
  | descriptor (o : Origin) (b : List Byte) (s : State)
  | aborted (slot : Word) (b : List Byte) (s : State)
  | dmaError (s : State)

/-- The direct request is taken and its descriptor read (R402). -/
def fetchDirect (d : DirectReq) (s : State) : Fetch :=
  let t := { s with sxp := { s.sxp with directReq := none } }
  let (addr, o) := match d with
    | .exec a _ => (a, Origin.direct a)
    | .bios a => (a, Origin.bios a)
  match memRead t addr Param.iocbSize with
  | .ok b u => .descriptor o b u
  | .error u => .dmaError u

/-- The head slot of the request ring is read: skipped when its abort was asked for (R404), else dispatched (R405). -/
def fetchHead (s : State) : Fetch :=
  let slot := s.sxp.reqOut
  let addr := slotAddr s.sxp.reqBase slot
  if slot ∈ s.sxp.abortQ then
    match memRead { s with sxp := { s.sxp with abortQ := s.sxp.abortQ.erase slot } } addr Param.iocbSize with
    | .ok b t => .aborted slot b t
    | .error t => .dmaError t
  else
    match memRead s addr Param.iocbSize with
    | .ok b t => .descriptor (.ring slot) b t
    | .error t => .dmaError t

/-- Whether the ring has work and room: why not, if not (R403). -/
def ringBlocked (s : State) : Option Suspend :=
  if !ringsActive s.sxp then some .nothingToDo
  else if ringMod s.reg.mbin[Param.reqSlot] s.sxp.reqLen = s.sxp.reqOut then some .ringEmpty
  else if ringAdd s.sxp.respIn 1 s.sxp.respLen = ringMod s.reg.mbin[Param.respSlot] s.sxp.respLen then some .respFull
  else none

/-- The next work of an engine without a pending mailbox command: a direct request, then the ring (R402 to R405,
R614). -/
def fetch (s : State) : Fetch :=
  match s.sxp.directReq with
  | some d => fetchDirect d s
  | none =>
    match ringBlocked s with
    | some r => .nothing r
    | none => fetchHead s

/-- A fetched descriptor becomes the packet, and the engine goes to state `x` (R402, R405). -/
def accept (x : SxpState) (o : Origin) (b : List Byte) (s : State) : State :=
  { s with sxp := { s.sxp with pkt := some { bytes := b, origin := o, skip := false }, state := x } }

/-- An aborted slot: an incomplete, aborted response and no target (R404). -/
def skipAborted (slot : Word) (b : List Byte) (s : State) : State :=
  toComplete { newResp b with completionStatus := Param.csIncomplete, statusFlags := Param.stfAborted }
    Config.mboxOverhead { s with sxp := { s.sxp with pkt := some { bytes := b, origin := .ring slot, skip := true } } }

/-- The step of `Idle` (R401 to R405). -/
def stepIdle (s : State) : EngineStep :=
  if s.sxp.mboxCmdPending then .go (takeMailbox (mailboxBody s.inst.nums s.reg.mbin[0]) s)
  else
    match fetch s with
    | .nothing r => .suspend s r
    | .descriptor o b t => .go (accept (dispatchState b) o b t)
    | .aborted slot b t => .go (skipAborted slot b t)
    | .dmaError t => .fault t .dmaFailure

/-! ### Descriptor states (R411 to R415) -/

/-- `BadPacket` (R411). -/
def stepBadPacket (p : Packet) (s : State) : EngineStep :=
  .go (toComplete { newResp p.bytes with completionStatus := Param.csIncomplete, hflags := hfBad }
    Config.mboxOverhead s)

/-- `SelectDevice` for a marker: it never reaches a target (R412). -/
def selectMarker (p : Packet) (s : State) : State :=
  toComplete { newResp p.bytes with completionStatus := Param.csCommandOverrun, statusFlags := Param.stfAborted }
    Config.mboxOverhead s

/-- `SelectDevice` for a command: the device is on bus 0 and there, or the selection times out (R413). -/
def selectCommand (p : Packet) (s : State) : State :=
  let path := pathOf p.bytes
  let target := targetOf p.bytes
  let t := { s with sxp := { s.sxp with curPath := path, curTarget := target, curLun := lunOf p.bytes } }
  if numBuses s.inst.buses ≤ path.toNat ∨ s.inst.numTargets ≤ target.toNat ∨ path ≠ 0 then toState .selectionTimeout t
  else
    match drawPresent t with
    | (true, u) => toState .sendCdb u
    | (false, u) => toState .selectionTimeout u

/-- `SelectDevice` (R412, R413). -/
def stepSelectDevice (p : Packet) (s : State) : EngineStep :=
  .go (if entryType p.bytes = Param.etMarker then selectMarker p s else selectCommand p s)

/-- `SelectionTimeout` (R415). -/
def stepSelectionTimeout (p : Packet) (s : State) : EngineStep :=
  .go (toComplete
    { newResp p.bytes with
      completionStatus := Param.csIncomplete
      statusFlags := Param.stfTimeout
      stateFlags := Param.seltoStateFlags
      time := Config.respTime 0 none }
    Config.selTimeoutDelay s)

/-! ### SendCdb (R420 to R426) -/

/-- The outcome of a part of `SendCdb`: a value and the state, or a fault. -/
inductive Sent (α : Type) where
  | ok (v : α) (s : State)
  | fault (s : State) (f : InternalFault)

/-- Segments from `n` continuation slots, the next of which is `slot`, until `want` are found (R425). -/
def contWalk (want : Nat) : Nat → Word → List Segment → State → Sent (List Segment)
  | 0, _, segs, s => .ok segs s
  | n + 1, slot, segs, s =>
    if want ≤ segs.length then .ok segs s
    else
      match memRead s (slotAddr s.sxp.reqBase slot) Param.iocbSize with
      | .error t => .fault t .dmaFailure
      | .ok c t =>
        match contSegments c with
        | none => .fault t .badContinuation
        | some more => contWalk want n (ringAdd slot 1 s.sxp.reqLen) (segs ++ more.take (want - segs.length)) t

/-- `sg_list(pkt)`: inline segments, and for a ring command those of its continuations (R425). -/
def sgList (p : Packet) (s : State) : Sent (List Segment) :=
  let want := segCount p.bytes
  let segs := (inlineSegments p.bytes).take want
  match p.origin with
  | .ring slot => contWalk want (entryCount p.bytes - 1) (ringAdd slot 1 s.sxp.reqLen) segs s
  | .direct _ | .bios _ => .ok segs s

/-- `MemWrite` of the bytes, segment by segment, in order (R420). -/
def scatter : List Segment → List Byte → State → Dma Unit
  | [], _, s => .ok () s
  | g :: gs, bytes, s =>
    match memWrite s g.base (bytes.take g.count) with
    | .ok () t => scatter gs (bytes.drop g.count) t
    | .error t => .error t

/-- `MemRead` of `n` bytes, segment by segment, in order (R420). -/
def gather : List Segment → Nat → State → Dma (List Byte)
  | [], _, s => .ok [] s
  | g :: gs, n, s =>
    match memRead s g.base (min g.count n) with
    | .error t => .error t
    | .ok b t =>
      match gather gs (n - g.count) t with
      | .ok rest u => .ok (b ++ rest) u
      | .error u => .error u

/-- `Target(0, cur_target).Command(cur_lun, cdb)`: the call is recorded and answered (R76, R420). -/
def issueCommand (p : Packet) (s : State) : CommandReply × State :=
  drawReply (recordCall (.command s.sxp.curTarget s.sxp.curLun (cdbOf p.bytes)) s)

/-- How many bytes the device has for, or wants from, the host. -/
def phaseLen : Phase → Nat
  | .statusOnly => 0
  | .dataIn bytes => bytes.length
  | .dataOut n => n

/-- The data phase over a segment list: how many bytes moved (R420). -/
def dataPhase (ph : Phase) (segs : List Segment) (s : State) : Sent Nat :=
  let moved := min (phaseLen ph) (hostLen segs)
  match ph with
  | .statusOnly => .ok moved s
  | .dataIn bytes =>
    match scatter segs (bytes.take moved) s with
    | .ok () t => .ok moved t
    | .error t => .fault t .dmaFailure
  | .dataOut _ =>
    match gather segs moved s with
    | .ok bytes t => .ok moved (recordCall (.dataOut s.sxp.curTarget bytes) t)
    | .error t => .fault t .dmaFailure

/-- `auto_sense(st)`: the response with the sense data, when it is wanted (R424). -/
def autoSense (p : Packet) (status : Byte) (r : Response) (s : State) : Response × State :=
  let target := s.sxp.curTarget
  if autoSenseWanted status (rflagsOf p.bytes) (targetParam s.sxp 0 (targetIdx target)).flags then
    let (sense, t) := drawSense (recordCall (.requestSense target s.sxp.curLun) s)
    ({ r with
        sense := sense
        senseLen := .ofNat 16 sense.length
        stateFlags := r.stateFlags ||| Param.sfGotSense }, t)
  else (r, s)

/-- The lengths and the SCSI status in a fresh response (R420, R423, R426). -/
def lengthResponse (b : List Byte) (status : Byte) (dev host moved : Nat) : Response :=
  { newResp b with
    scsiStatus := status.zeroExtend 16
    completionStatus := lengthStatus dev host
    residual := residualOf dev host moved }

/-- `SendCdb` of a ring or direct command (R420). -/
def sendCommand (p : Packet) (s : State) : EngineStep :=
  match sgList p s with
  | .fault t f => .fault t f
  | .ok segs t =>
    let (reply, u) := issueCommand p t
    match dataPhase reply.phase segs u with
    | .fault v f => .fault v f
    | .ok moved v =>
      let r := lengthResponse p.bytes reply.status (phaseLen reply.phase) (hostLen segs) moved
      let (r, w) := autoSense p reply.status { r with stateFlags := executedFlags moved } v
      .go (toComplete { r with time := Config.respTime moved (some reply.rate) }
        (Config.elapsed moved reply.rate + Config.mboxOverhead) w)

/-- The BIOS PIO flag in firmware memory (R426). -/
def biosPio (s : State) : Bool := (fwRead s Config.biosPioFlagAddr).getLsbD Config.biosPioFlagBit

/-- The bytes of a PIO transfer are staged; none leaves no buffer (R426). -/
def stagePio (bytes : List Byte) (s : State) : State :=
  { s with sxp := { s.sxp with pioBuf := if bytes.isEmpty then none else some { words := wordsOf bytes, idx := 0 } } }

/-- The data phase of a BIOS IOCB: as over its one segment, but for data in by PIO (R426). -/
def biosDataPhase (ph : Phase) (segs : List Segment) (s : State) : Sent Nat :=
  match ph with
  | .dataIn bytes =>
    let moved := min bytes.length (hostLen segs)
    if biosPio s then .ok moved (stagePio (bytes.take moved) s) else dataPhase ph segs s
  | .statusOnly | .dataOut _ => dataPhase ph segs s

/-- `SendCdb` of a BIOS IOCB (R426). -/
def sendBios (p : Packet) (s : State) : EngineStep :=
  let segs := (inlineSegments p.bytes).take (min (segCount p.bytes) 1)
  let (reply, t) := issueCommand p s
  match biosDataPhase reply.phase segs t with
  | .fault u f => .fault u f
  | .ok moved u =>
    .go (toComplete (lengthResponse p.bytes reply.status (phaseLen reply.phase) (hostLen segs) moved)
      (Config.elapsed moved reply.rate + Config.mboxOverhead) u)

/-- `SendCdb` (R420, R426). -/
def stepSendCdb (p : Packet) (s : State) : EngineStep :=
  match p.origin with
  | .bios _ => sendBios p s
  | .ring _ | .direct _ => sendCommand p s

/-! ### Completion (R430 to R434) -/

/-- `stage_mbox_completion()`: mailboxes 0 to 3 (R433). -/
def stageCompletion (r : Response) (x : Sxp) : Sxp :=
  { x with
    stageOut := (((x.stageOut.set 0 Param.complete).set 1 r.completionStatus).set 2 r.scsiStatus).set 3
      (r.residual.extractLsb' 0 16)
    mboutMask := 0b00001111 }

/-- `stage_fast_post()`: mailboxes 0 to 2 (R432). -/
def stageFastPost (r : Response) (x : Sxp) : Sxp :=
  { x with
    stageOut := ((x.stageOut.set 0 Param.asyncCmdCmplt).set 1 (r.handle.extractLsb' 0 16)).set 2
      (r.handle.extractLsb' 16 16)
    mboutMask := 0b00000111 }

/-- Where a completed ring command goes, once the consumer has moved (R430). -/
def completeRing (p : Packet) (r : Response) (x : Sxp) : Sxp :=
  let x := { x with reqOut := ringAdd x.reqOut (slotsOf p.bytes) x.reqLen }
  if entryType p.bytes = Param.etMarker ∨ p.skip then
    { x with postKind := some .silent, state := .scheduleTimerSilence }
  else if x.fastPost ∧ r.completionStatus = Param.csComplete ∧ r.scsiStatus = 0 then
    { stageFastPost r x with postKind := some .fastPost, state := .scheduleMboxInterrupt }
  else { x with postKind := some .ring, state := .scheduleRiscInterrupt }

/-- `CompleteCommand`: one of three completion paths (R430). -/
def stepComplete (p : Packet) (r : Response) (s : State) : EngineStep :=
  .go { s with sxp :=
    match p.origin with
    | .bios _ => { stageCompletion r s.sxp with postKind := some .mboxOnly, state := .scheduleMboxInterrupt }
    | .direct _ => { stageCompletion r s.sxp with postKind := some .mboxAndRing, state := .scheduleMboxInterrupt }
    | .ring _ => completeRing p r s.sxp }

/-! ### Posting states (R435 to R443) -/

/-- `T_SXP` is armed with the staged delay and the engine waits in state `x` (R435, R437, R439). -/
def stepSchedule (x : SxpState) (s : State) : EngineStep :=
  .suspend { s with sxp := { armSxp s.sxp.postDelay s.sxp with state := x } } .waitTimer

/-- `MboxWaitTimer` (R438). -/
def stepMboxWait (s : State) : EngineStep :=
  if s.sxp.timerArmed then .suspend s .waitTimer else .go (toState .acquireMboxSemaphore s)

/-- `AcquireMboxSemaphore` (R442). -/
def stepAcquire (s : State) : EngineStep :=
  if semaLocked s.reg.sema then .suspend s .waitSemaphore else .go (toState .setRiscInterrupt (postOutputs s))

/-- `WaitTimer`: the silent path (R440). -/
def stepWaitTimer (s : State) : EngineStep :=
  if s.sxp.timerArmed then .suspend s .waitTimer
  else
    match s.sxp.pktResp with
    | none => .suspend s .inconsistent
    | some r =>
      match writeResp r s with
      | .error t => .fault t .dmaFailure
      | .ok () t => .go (backToIdle (publishReqOut t))

/-- The end of a posting: the interrupt, and `Idle` again (R443). -/
def finishPosting (s : State) : State :=
  let t := backToIdle (raiseInt s)
  { t with sxp := { t.sxp with mboutMask := 0 } }

/-- The part of `SetRiscInterrupt` that the completion path decides: the response entry and the consumer (R443). -/
def postByKind (k : PostKind) (s : State) : EngineStep :=
  match k, s.sxp.pktResp with
  | .ring, some r =>
    match writeResp r s with
    | .error t => .fault t .dmaFailure
    | .ok () t => .go (finishPosting (publishReqOut t))
  | .fastPost, _ => .go (finishPosting (publishReqOut s))
  | .mboxAndRing, some r =>
    if s.sxp.respInit then
      match writeResp r s with
      | .error t => .fault t .dmaFailure
      | .ok () t => .go (finishPosting t)
    else .go (finishPosting s)
  | .mboxOnly, _ | .mboxResult, _ => .go (finishPosting s)
  | .ring, none | .mboxAndRing, none | .silent, _ => .suspend s .inconsistent

/-- `SetRiscInterrupt` (R443). -/
def stepSetInterrupt (s : State) : EngineStep :=
  if s.sxp.timerArmed then .suspend s .waitTimer
  else
    match s.sxp.postKind with
    | some k => postByKind k s
    | none => .suspend s .inconsistent

/-! ### The step loop (R400) -/

/-- A step that works on the packet; a state without one is not reachable (R449, log 23). -/
def onPacket (s : State) (f : Packet → EngineStep) : EngineStep :=
  match s.sxp.pkt with
  | some p => f p
  | none => .suspend s .inconsistent

/-- `step(sxp_state)`: one step of the engine (R14, R400). -/
def engineStep (s : State) : EngineStep :=
  match s.sxp.state with
  | .idle => stepIdle s
  | .selectDevice => onPacket s fun p => stepSelectDevice p s
  | .selectionTimeout => onPacket s fun p => stepSelectionTimeout p s
  | .sendCdb => onPacket s fun p => stepSendCdb p s
  | .badPacket => onPacket s fun p => stepBadPacket p s
  | .completeCommand =>
    onPacket s fun p =>
      match s.sxp.pktResp with
      | some r => stepComplete p r s
      | none => .suspend s .inconsistent
  | .scheduleRiscInterrupt => stepSchedule .setRiscInterrupt s
  | .setRiscInterrupt => stepSetInterrupt s
  | .scheduleMboxInterrupt => stepSchedule .mboxWaitTimer s
  | .mboxWaitTimer => stepMboxWait s
  | .acquireMboxSemaphore => stepAcquire s
  | .scheduleTimerSilence => stepSchedule .waitTimer s
  | .waitTimer => stepWaitTimer s

/-- A pass ends: it is no longer running, and its reason is kept (R400). -/
def endPass (r : Suspend) (s : State) : State :=
  { s with sxp := { s.sxp with running := false }, env := { s.env with lastSuspend := some r } }

/-- The loop of R400, of at most `n` steps: it ends when a step suspends or raises a fault. -/
def runPass : Nat → State → State
  | 0, s => { s with sxp := { s.sxp with running := false } }
  | n + 1, s =>
    match engineStep s with
    | .go t => runPass n t
    | .suspend t r => endPass r t
    | .fault t f => raiseFault f t

/-- More steps than any pass takes (R450, log 36). -/
def passFuel : Nat := 16

/-- The rest of a pass, from a state of the engine in the middle of it. -/
def resume (s : State) : State := runPass passFuel { s with sxp := { s.sxp with running := true } }

/-- `kick()`: nothing while a pass is running, else a pass (R400). -/
def kick (s : State) : State := if s.sxp.running then s else resume s

end Sys2Proof.Machine
end

