-- ==== Sys2Proof/Machine/Registers.lean ====
section
/-! DEFINITION. The meanings of the accesses to no register, to the fixed registers and to the mailbox registers
(spec/40_register_decoder.md §1, §2). -/

namespace Sys2Proof.Machine

/-- The outcome of an instruction. -/
abbrev Result := Host.Outcome State Fault Refusal

/-! ### Shared operations -/

/-- An access to a place that reads a constant and ignores writes. -/
def accessConst (c : Word) (w : Option Word) (s : State) : State :=
  match w with
  | none => returnRead c s
  | some _ => s

/-- A read of PIO_PORT: the next word, and no buffer once the last is read (R217). -/
def readPio (s : State) : State :=
  match s.sxp.pioBuf with
  | none => returnRead Param.pioEmptyRead s
  | some p =>
    let rest := if p.idx + 1 = p.words.length then none else some { p with idx := p.idx + 1 }
    returnRead (p.words.getD p.idx Param.pioEmptyRead) { s with sxp := { s.sxp with pioBuf := rest } }

/-- A write of mailbox register `i`: stored in `mbin`, and a ring-cursor slot resumes an idle engine (R212). -/
def writeMbin (i : Fin 8) (v : Word) (s : State) : State :=
  let t := { s with reg := { s.reg with mbin := s.reg.mbin.set i v } }
  if (i = Param.reqSlot ∨ i = Param.respSlot) ∧ t.sxp.state = .idle then kick t else t

/-! ### The meanings -/

/-- READ_ODD: 0xFFFF, in every bank and generation (R200). -/
def execReadOdd (_off : Word) (s : State) : Result :=
  .next (returnRead Param.oddRead s)

/-- WRITE_ODD: nothing changes (R201). -/
def execWriteOdd (_off : Word) (_v : Word) (s : State) : Result :=
  .next s

/-- ACCESS_UNMAPPED: a read gives `UNMAPPED_READ`, a write changes nothing (R202). -/
def execAccessUnmapped (_off : Word) (w : Option Word) (s : State) : Result :=
  .next (accessConst Param.unmappedRead w s)

/-- READ_ID_LO: `ID_LO_VALUE` (R204). -/
def execReadIdLo (s : State) : Result :=
  .next (returnRead Config.idLoValue s)

/-- WRITE_ID_LO: ignored (R204). -/
def execWriteIdLo (_v : Word) (s : State) : Result :=
  .next s

/-- READ_ID_HI: `ID_HI_VALUE` (R204). -/
def execReadIdHi (s : State) : Result :=
  .next (returnRead Config.idHiValue s)

/-- WRITE_ID_HI: ignored (R204). -/
def execWriteIdHi (_v : Word) (s : State) : Result :=
  .next s

/-- READ_CONF0: the stored value (R205). -/
def execReadConf0 (s : State) : Result :=
  .next (returnRead s.reg.conf0 s)

/-- WRITE_CONF0: stored (R205). -/
def execWriteConf0 (v : Word) (s : State) : Result :=
  .next { s with reg := { s.reg with conf0 := v } }

/-- READ_CONF1: the stored value (R206). -/
def execReadConf1 (s : State) : Result :=
  .next (returnRead s.reg.conf1 s)

/-- WRITE_CONF1: stored; `BANK_SEL` selects the bank of later accesses (R206). -/
def execWriteConf1 (v : Word) (s : State) : Result :=
  .next { s with reg := { s.reg with conf1 := v } }

/-- READ_ICR: the stored value (R208). -/
def execReadIcr (s : State) : Result :=
  .next (returnRead s.reg.icr s)

/-- WRITE_ICR: the soft-reset bit is checked before anything else of the write (R207). -/
def execWriteIcr (v : Word) (s : State) : Result :=
  if bitSet v Param.icrSoftReset then .next (controllerReset s)
  else .next { s with reg := { s.reg with icr := icrStored v } }

/-- READ_ISR: the stored value (R208). -/
def execReadIsr (s : State) : Result :=
  .next (returnRead s.reg.isr s)

/-- WRITE_ISR: ignored (R208). -/
def execWriteIsr (_v : Word) (s : State) : Result :=
  .next s

/-- READ_SEMA: the stored value (R210). -/
def execReadSema (s : State) : Result :=
  .next (returnRead s.reg.sema s)

/-- WRITE_SEMA: the masked store; a release resumes an engine that waits for the semaphore (R209). -/
def execWriteSema (v : Word) (s : State) : Result :=
  let t := storeSema v s
  if !semaLocked t.reg.sema && t.sxp.state = .acquireMboxSemaphore then .next (kick t) else .next t

/-- READ_NVRAM: the oracle's answer (R213). -/
def execReadNvram (s : State) : Result :=
  let (w, t) := drawNvram (recordCall .nvRead s)
  .next (returnRead w t)

/-- WRITE_NVRAM: passed to the oracle (R213). -/
def execWriteNvram (v : Word) (s : State) : Result :=
  .next (recordCall (.nvWrite v) s)

/-- READ_FLASH_DATA: a flash read cycle, extended with zeros (R215). -/
def execReadFlashData (s : State) : Result :=
  .next (flashRead s)

/-- WRITE_FLASH_DATA: a flash write cycle of `v[7:0]` (R216). -/
def execWriteFlashData (v : Word) (s : State) : Result :=
  .next (flashWrite (v.extractLsb' 0 8) s)

/-- READ_FLASH_ADDR: the stored value (R214). -/
def execReadFlashAddr (s : State) : Result :=
  .next (returnRead s.reg.flashAddr s)

/-- WRITE_FLASH_ADDR: stored; no flash cycle (R214). -/
def execWriteFlashAddr (v : Word) (s : State) : Result :=
  .next { s with reg := { s.reg with flashAddr := v } }

/-- READ_PIO_PORT: the next word of the BIOS PIO buffer (R217). -/
def execReadPioPort (s : State) : Result :=
  .next (readPio s)

/-- WRITE_PIO_PORT: ignored (R217). -/
def execWritePioPort (_v : Word) (s : State) : Result :=
  .next s

/-- READ_MBOX0: `mbout[0]` (R211). -/
def execReadMbox0 (s : State) : Result :=
  .next (returnRead s.reg.mbout[0] s)

/-- WRITE_MBOX0: `mbin[0] <- v` (R212). -/
def execWriteMbox0 (v : Word) (s : State) : Result :=
  .next (writeMbin 0 v s)

/-- READ_MBOX1: `mbout[1]` (R211). -/
def execReadMbox1 (s : State) : Result :=
  .next (returnRead s.reg.mbout[1] s)

/-- WRITE_MBOX1: `mbin[1] <- v` (R212). -/
def execWriteMbox1 (v : Word) (s : State) : Result :=
  .next (writeMbin 1 v s)

/-- READ_MBOX2: `mbout[2]` (R211). -/
def execReadMbox2 (s : State) : Result :=
  .next (returnRead s.reg.mbout[2] s)

/-- WRITE_MBOX2: `mbin[2] <- v` (R212). -/
def execWriteMbox2 (v : Word) (s : State) : Result :=
  .next (writeMbin 2 v s)

/-- READ_MBOX3: `mbout[3]` (R211). -/
def execReadMbox3 (s : State) : Result :=
  .next (returnRead s.reg.mbout[3] s)

/-- WRITE_MBOX3: `mbin[3] <- v` (R212). -/
def execWriteMbox3 (v : Word) (s : State) : Result :=
  .next (writeMbin 3 v s)

/-- READ_MBOX4: `mbout[4]` (R211). -/
def execReadMbox4 (s : State) : Result :=
  .next (returnRead s.reg.mbout[4] s)

/-- WRITE_MBOX4: `mbin[4] <- v` (R212). A cursor slot. -/
def execWriteMbox4 (v : Word) (s : State) : Result :=
  .next (writeMbin 4 v s)

/-- READ_MBOX5: `mbout[5]` (R211). -/
def execReadMbox5 (s : State) : Result :=
  .next (returnRead s.reg.mbout[5] s)

/-- WRITE_MBOX5: `mbin[5] <- v` (R212). A cursor slot. -/
def execWriteMbox5 (v : Word) (s : State) : Result :=
  .next (writeMbin 5 v s)

/-- READ_MBOX6: `mbout[6]` (R211). -/
def execReadMbox6 (s : State) : Result :=
  .next (returnRead s.reg.mbout[6] s)

/-- WRITE_MBOX6: `mbin[6] <- v` (R212). -/
def execWriteMbox6 (v : Word) (s : State) : Result :=
  .next (writeMbin 6 v s)

/-- READ_MBOX7: `mbout[7]` (R211). -/
def execReadMbox7 (s : State) : Result :=
  .next (returnRead s.reg.mbout[7] s)

/-- WRITE_MBOX7: `mbin[7] <- v` (R212). -/
def execWriteMbox7 (v : Word) (s : State) : Result :=
  .next (writeMbin 7 v s)

end Sys2Proof.Machine
end

