-- ==== Sys2Proof/Machine/Banks.lean ====
section
/-! DEFINITION. The meanings of the accesses to the RISC, SXP and DMA banks and of the HCCR commands
(spec/40_register_decoder.md §3, §4). -/

namespace Sys2Proof.Machine

/-! ### Shared operations -/

/-- Channel `c` of the DMA bank, replaced. -/
def setDma (c : Fin 2) (d : DmaChannel) (s : State) : State := { s with reg := { s.reg with dma := s.reg.dma.set c d } }

/-- An access to `DMA_CONF[c]` (R231). -/
def accessDmaConf (c : Fin 2) (w : Option Word) (s : State) : State :=
  match w with
  | none => returnRead s.reg.dma[c].conf s
  | some v => setDma c { s.reg.dma[c] with conf := v } s

/-- An access to `DMA_CONTROL[c]` (R231). -/
def accessDmaControl (c : Fin 2) (w : Option Word) (s : State) : State :=
  match w with
  | none => returnRead s.reg.dma[c].control s
  | some v => setDma c { s.reg.dma[c] with control := v } s

/-- An access to `DMA_ADDR[c][j]` (R231). -/
def accessDmaAddr (c : Fin 2) (j : Fin 4) (w : Option Word) (s : State) : State :=
  match w with
  | none => returnRead s.reg.dma[c].addr[j] s
  | some v => setDma c { s.reg.dma[c] with addr := s.reg.dma[c].addr.set j v } s

/-- `SET_HOST_INT`: the doorbell (R224). -/
def setHostInt (s : State) : State :=
  let t := { s with sxp := { s.sxp with mboxCmdPending := true } }
  if t.sxp.state = .idle then kick t else t

/-! ### The meanings -/

/-- READ_RISC_PSR: the stored value (R218). -/
def execReadRiscPsr (s : State) : Result :=
  .next (returnRead s.reg.riscPsr s)

/-- WRITE_RISC_PSR: stored (R218). -/
def execWriteRiscPsr (v : Word) (s : State) : Result :=
  .next { s with reg := { s.reg with riscPsr := v } }

/-- READ_RISC_PC: the stored value (R218, R44). -/
def execReadRiscPc (s : State) : Result :=
  .next (returnRead s.reg.riscPc s)

/-- WRITE_RISC_PC: stored (R218, R44). -/
def execWriteRiscPc (v : Word) (s : State) : Result :=
  .next { s with reg := { s.reg with riscPc := v } }

/-- READ_RISC_MTR: the stored value (R218). -/
def execReadRiscMtr (s : State) : Result :=
  .next (returnRead s.reg.riscMtr s)

/-- WRITE_RISC_MTR: stored (R218). -/
def execWriteRiscMtr (v : Word) (s : State) : Result :=
  .next { s with reg := { s.reg with riscMtr := v } }

/-- READ_GPIO_DATA: the stored value (R219). -/
def execReadGpioData (s : State) : Result :=
  .next (returnRead s.reg.gpioData s)

/-- WRITE_GPIO_DATA: stored (R219). -/
def execWriteGpioData (v : Word) (s : State) : Result :=
  .next { s with reg := { s.reg with gpioData := v } }

/-- READ_GPIO_ENABLE: the stored value (R219). -/
def execReadGpioEnable (s : State) : Result :=
  .next (returnRead s.reg.gpioEnable s)

/-- WRITE_GPIO_ENABLE: stored (R219). -/
def execWriteGpioEnable (v : Word) (s : State) : Result :=
  .next { s with reg := { s.reg with gpioEnable := v } }

/-- READ_HCCR: the pending and paused bits (R220). -/
def execReadHccr (s : State) : Result :=
  .next (returnRead (hccrValue s.sxp.mboxCmdPending s.reg.riscPaused) s)

/-- READ_SXP_PINS_DIFF: the constant of the bank selected; a write is ignored (R230). -/
def execReadSxpPinsDiff (b : Fin 2) (w : Option Word) (s : State) : Result :=
  .next (accessConst (Config.sxpPinsDiffValue b) w s)

/-- ACCESS_DMA_CONF0: read and stored as written (R231). -/
def execAccessDmaConf0 (w : Option Word) (s : State) : Result :=
  .next (accessDmaConf 0 w s)

/-- ACCESS_DMA_CONTROL0: read and stored as written (R231). -/
def execAccessDmaControl0 (w : Option Word) (s : State) : Result :=
  .next (accessDmaControl 0 w s)

/-- ACCESS_DMA_STATUS0: reads 0 and ignores writes (R231). -/
def execAccessDmaStatus0 (w : Option Word) (s : State) : Result :=
  .next (accessConst 0 w s)

/-- ACCESS_DMA_FIFO0: reads 0 and ignores writes (R231). -/
def execAccessDmaFifo0 (w : Option Word) (s : State) : Result :=
  .next (accessConst 0 w s)

/-- ACCESS_DMA_ADDR0_0: read and stored as written (R231). -/
def execAccessDmaAddr00 (w : Option Word) (s : State) : Result :=
  .next (accessDmaAddr 0 0 w s)

/-- ACCESS_DMA_ADDR0_1: read and stored as written (R231). -/
def execAccessDmaAddr01 (w : Option Word) (s : State) : Result :=
  .next (accessDmaAddr 0 1 w s)

/-- ACCESS_DMA_ADDR0_2: read and stored as written (R231). -/
def execAccessDmaAddr02 (w : Option Word) (s : State) : Result :=
  .next (accessDmaAddr 0 2 w s)

/-- ACCESS_DMA_ADDR0_3: read and stored as written (R231). -/
def execAccessDmaAddr03 (w : Option Word) (s : State) : Result :=
  .next (accessDmaAddr 0 3 w s)

/-- ACCESS_DMA_CONF1: read and stored as written (R231). -/
def execAccessDmaConf1 (w : Option Word) (s : State) : Result :=
  .next (accessDmaConf 1 w s)

/-- ACCESS_DMA_CONTROL1: read and stored as written (R231). -/
def execAccessDmaControl1 (w : Option Word) (s : State) : Result :=
  .next (accessDmaControl 1 w s)

/-- ACCESS_DMA_STATUS1: reads 0 and ignores writes (R231). -/
def execAccessDmaStatus1 (w : Option Word) (s : State) : Result :=
  .next (accessConst 0 w s)

/-- ACCESS_DMA_FIFO1: reads 0 and ignores writes (R231). -/
def execAccessDmaFifo1 (w : Option Word) (s : State) : Result :=
  .next (accessConst 0 w s)

/-- ACCESS_DMA_ADDR1_0: read and stored as written (R231). -/
def execAccessDmaAddr10 (w : Option Word) (s : State) : Result :=
  .next (accessDmaAddr 1 0 w s)

/-- ACCESS_DMA_ADDR1_1: read and stored as written (R231). -/
def execAccessDmaAddr11 (w : Option Word) (s : State) : Result :=
  .next (accessDmaAddr 1 1 w s)

/-- ACCESS_DMA_ADDR1_2: read and stored as written (R231). -/
def execAccessDmaAddr12 (w : Option Word) (s : State) : Result :=
  .next (accessDmaAddr 1 2 w s)

/-- ACCESS_DMA_ADDR1_3: read and stored as written (R231). -/
def execAccessDmaAddr13 (w : Option Word) (s : State) : Result :=
  .next (accessDmaAddr 1 3 w s)

/-- HCCR_NOP: no state changes (R222). -/
def execHccrNop (_low : BitVec 12) (s : State) : Result :=
  .next s

/-- HCCR_RESET_RISC: only `risc_paused` is cleared (R223). -/
def execHccrResetRisc (_low : BitVec 12) (s : State) : Result :=
  .next { s with reg := { s.reg with riscPaused := false } }

/-- HCCR_PAUSE_RISC: `risc_paused` is set; the engine is not stopped (R226). -/
def execHccrPauseRisc (_low : BitVec 12) (s : State) : Result :=
  .next { s with reg := { s.reg with riscPaused := true } }

/-- HCCR_RELEASE_RISC: `risc_paused` is cleared (R227). -/
def execHccrReleaseRisc (_low : BitVec 12) (s : State) : Result :=
  .next { s with reg := { s.reg with riscPaused := false } }

/-- HCCR_SINGLE_STEP: no state changes (R229). -/
def execHccrSingleStep (_low : BitVec 12) (s : State) : Result :=
  .next s

/-- HCCR_SET_HOST_INT: the command in `mbin` is pending, and an idle engine runs (R224). -/
def execHccrSetHostInt (_low : BitVec 12) (s : State) : Result :=
  .next (setHostInt s)

/-- HCCR_CLEAR_HOST_INT: a command not yet taken is withdrawn (R228). -/
def execHccrClearHostInt (_low : BitVec 12) (s : State) : Result :=
  .next { s with sxp := { s.sxp with mboxCmdPending := false } }

/-- HCCR_CLEAR_RISC_INT: `ISR_RISC_INT` is cleared (R225). -/
def execHccrClearRiscInt (_low : BitVec 12) (s : State) : Result :=
  .next (clearInt s)

/-- HCCR_UNDEFINED: no state changes (R229). -/
def execHccrUndefined (_cmd : BitVec 4) (_low : BitVec 12) (s : State) : Result :=
  .next s

end Sys2Proof.Machine
end

