-- ==== Sys2Proof/Machine/Commands.lean ====
section
/-! DEFINITION. The meanings of the mailbox commands (spec/41_mailbox.md): the engine, in `Idle`, takes the pending command
(R401), its opcode's rule answers, and the pass goes on to its end (R400, R606): to the wait for the timer that
posts the result, or, after `Pending`, through the direct request. -/

namespace Sys2Proof.Machine

/-- MBOX_NO_OP (R301). -/
def execMboxNoOp (s : State) : Result :=
  .next (resume (takeMailbox bodyNoOp s))

/-- MBOX_LOAD_RAM (R302). -/
def execMboxLoadRam (s : State) : Result :=
  .next (resume (takeMailbox bodyLoadRam s))

/-- MBOX_EXEC_FIRMWARE (R311). -/
def execMboxExecFirmware (s : State) : Result :=
  .next (resume (takeMailbox bodyExecFirmware s))

/-- MBOX_DUMP_RAM (R303). -/
def execMboxDumpRam (s : State) : Result :=
  .next (resume (takeMailbox bodyDumpRam s))

/-- MBOX_WRITE_RAM_WORD (R304). -/
def execMboxWriteRamWord (s : State) : Result :=
  .next (resume (takeMailbox bodyWriteRamWord s))

/-- MBOX_READ_RAM_WORD (R305). -/
def execMboxReadRamWord (s : State) : Result :=
  .next (resume (takeMailbox bodyReadRamWord s))

/-- MBOX_MAILBOX_REG_TEST (R313). -/
def execMboxMailboxRegTest (s : State) : Result :=
  .next (resume (takeMailbox bodyMailboxRegTest s))

/-- MBOX_VERIFY_CHECKSUM (R307). -/
def execMboxVerifyChecksum (s : State) : Result :=
  .next (resume (takeMailbox bodyVerifyChecksum s))

/-- MBOX_ABOUT_FIRMWARE (R312). -/
def execMboxAboutFirmware (s : State) : Result :=
  .next (resume (takeMailbox bodyAboutFirmware s))

/-- MBOX_INIT_REQ_QUEUE (R314). -/
def execMboxInitReqQueue (s : State) : Result :=
  .next (resume (takeMailbox bodyInitReqQueue s))

/-- MBOX_INIT_RES_QUEUE (R315). -/
def execMboxInitResQueue (s : State) : Result :=
  .next (resume (takeMailbox bodyInitResQueue s))

/-- MBOX_EXECUTE_IOCB (R319). -/
def execMboxExecuteIocb (s : State) : Result :=
  .next (resume (takeMailbox bodyExecuteIocb s))

/-- MBOX_WAKE_UP (R332). -/
def execMboxWakeUp (s : State) : Result :=
  .next (resume (takeMailbox bodyWakeUp s))

/-- MBOX_STOP_FIRMWARE (R333). -/
def execMboxStopFirmware (s : State) : Result :=
  .next (resume (takeMailbox bodyStopFirmware s))

/-- MBOX_ABORT (R321). -/
def execMboxAbort (s : State) : Result :=
  .next (resume (takeMailbox bodyAbort s))

/-- MBOX_ABORT_DEVICE (R322). -/
def execMboxAbortDevice (s : State) : Result :=
  .next (resume (takeMailbox bodyAbortDevice s))

/-- MBOX_ABORT_TARGET (R323). -/
def execMboxAbortTarget (s : State) : Result :=
  .next (resume (takeMailbox bodyAbortTarget s))

/-- MBOX_BUS_RESET (R325). -/
def execMboxBusReset (s : State) : Result :=
  .next (resume (takeMailbox bodyBusReset s))

/-- MBOX_STOP_QUEUE (R326). -/
def execMboxStopQueue (s : State) : Result :=
  .next (resume (takeMailbox bodyStopQueue s))

/-- MBOX_START_QUEUE (R327). -/
def execMboxStartQueue (s : State) : Result :=
  .next (resume (takeMailbox bodyStartQueue s))

/-- MBOX_SINGLE_STEP_QUEUE (R328). -/
def execMboxSingleStepQueue (s : State) : Result :=
  .next (resume (takeMailbox bodySingleStepQueue s))

/-- MBOX_ABORT_QUEUE (R329). -/
def execMboxAbortQueue (s : State) : Result :=
  .next (resume (takeMailbox bodyAbortQueue s))

/-- MBOX_GET_DEV_QUEUE_STATUS (R330). -/
def execMboxGetDevQueueStatus (s : State) : Result :=
  .next (resume (takeMailbox bodyGetDevQueueStatus s))

/-- MBOX_GET_FIRMWARE_STATUS (R331). -/
def execMboxGetFirmwareStatus (s : State) : Result :=
  .next (resume (takeMailbox bodyGetFirmwareStatus s))

/-- MBOX_GET_INIT_SCSI_ID (R350). -/
def execMboxGetInitScsiId (s : State) : Result :=
  .next (resume (takeMailbox bodyGetInitScsiId s))

/-- MBOX_GET_SELECT_TIMEOUT (R351). -/
def execMboxGetSelectTimeout (s : State) : Result :=
  .next (resume (takeMailbox bodyGetSelectTimeout s))

/-- MBOX_GET_RETRY_COUNT (R352). -/
def execMboxGetRetryCount (s : State) : Result :=
  .next (resume (takeMailbox bodyGetRetryCount s))

/-- MBOX_GET_TAG_AGE_LIMIT (R353). -/
def execMboxGetTagAgeLimit (s : State) : Result :=
  .next (resume (takeMailbox bodyGetTagAgeLimit s))

/-- MBOX_GET_CLOCK_RATE (R354). -/
def execMboxGetClockRate (s : State) : Result :=
  .next (resume (takeMailbox bodyGetClockRate s))

/-- MBOX_GET_ACT_NEG_STATE (R355). -/
def execMboxGetActNegState (s : State) : Result :=
  .next (resume (takeMailbox bodyGetActNegState s))

/-- MBOX_GET_ASYNC_DATA_SETUP_TIME (R356). -/
def execMboxGetAsyncDataSetupTime (s : State) : Result :=
  .next (resume (takeMailbox bodyGetAsyncDataSetupTime s))

/-- MBOX_GET_PCI_PARAMS (R357). -/
def execMboxGetPciParams (s : State) : Result :=
  .next (resume (takeMailbox bodyGetPciParams s))

/-- MBOX_GET_TARGET_PARAMS (R358). -/
def execMboxGetTargetParams (s : State) : Result :=
  .next (resume (takeMailbox bodyGetTargetParams s))

/-- MBOX_GET_DEV_QUEUE_PARAMS (R359). -/
def execMboxGetDevQueueParams (s : State) : Result :=
  .next (resume (takeMailbox bodyGetDevQueueParams s))

/-- MBOX_GET_RESET_DELAY_PARAMS (R360). -/
def execMboxGetResetDelayParams (s : State) : Result :=
  .next (resume (takeMailbox bodyGetResetDelayParams s))

/-- MBOX_SET_INIT_SCSI_ID (R361). -/
def execMboxSetInitScsiId (s : State) : Result :=
  .next (resume (takeMailbox bodySetInitScsiId s))

/-- MBOX_SET_SELECT_TIMEOUT (R362). -/
def execMboxSetSelectTimeout (s : State) : Result :=
  .next (resume (takeMailbox bodySetSelectTimeout s))

/-- MBOX_SET_RETRY_COUNT (R363). -/
def execMboxSetRetryCount (s : State) : Result :=
  .next (resume (takeMailbox bodySetRetryCount s))

/-- MBOX_SET_TAG_AGE_LIMIT (R364). -/
def execMboxSetTagAgeLimit (s : State) : Result :=
  .next (resume (takeMailbox bodySetTagAgeLimit s))

/-- MBOX_SET_CLOCK_RATE (R365). -/
def execMboxSetClockRate (s : State) : Result :=
  .next (resume (takeMailbox bodySetClockRate s))

/-- MBOX_SET_ACT_NEG_STATE (R366). -/
def execMboxSetActNegState (s : State) : Result :=
  .next (resume (takeMailbox bodySetActNegState s))

/-- MBOX_SET_ASYNC_DATA_SETUP_TIME (R367). -/
def execMboxSetAsyncDataSetupTime (s : State) : Result :=
  .next (resume (takeMailbox bodySetAsyncDataSetupTime s))

/-- MBOX_SET_PCI_PARAMS (R368). -/
def execMboxSetPciParams (s : State) : Result :=
  .next (resume (takeMailbox bodySetPciParams s))

/-- MBOX_SET_TARGET_PARAMS (R369). -/
def execMboxSetTargetParams (s : State) : Result :=
  .next (resume (takeMailbox bodySetTargetParams s))

/-- MBOX_SET_DEV_QUEUE_PARAMS (R370). -/
def execMboxSetDevQueueParams (s : State) : Result :=
  .next (resume (takeMailbox bodySetDevQueueParams s))

/-- MBOX_SET_RESET_DELAY_PARAMS (R371). -/
def execMboxSetResetDelayParams (s : State) : Result :=
  .next (resume (takeMailbox bodySetResetDelayParams s))

/-- MBOX_RETURN_BIOS_BLOCK_ADDR (R335). -/
def execMboxReturnBiosBlockAddr (s : State) : Result :=
  .next (resume (takeMailbox bodyReturnBiosBlockAddr s))

/-- MBOX_WRITE_FOUR_RAM_WORDS (R306). -/
def execMboxWriteFourRamWords (s : State) : Result :=
  .next (resume (takeMailbox bodyWriteFourRamWords s))

/-- MBOX_EXECUTE_BIOS_IOCB (R340). -/
def execMboxExecuteBiosIocb (s : State) : Result :=
  .next (resume (takeMailbox bodyExecuteBiosIocb s))

/-- MBOX_SET_FIRMWARE_FEATURES (R342). -/
def execMboxSetFirmwareFeatures (s : State) : Result :=
  .next (resume (takeMailbox bodySetFirmwareFeatures s))

/-- MBOX_GET_FIRMWARE_FEATURES (R343). -/
def execMboxGetFirmwareFeatures (s : State) : Result :=
  .next (resume (takeMailbox bodyGetFirmwareFeatures s))

/-- MBOX_LOAD_RAM_A64 (R309). -/
def execMboxLoadRamA64 (s : State) : Result :=
  .next (resume (takeMailbox bodyLoadRamA64 s))

/-- MBOX_DUMP_RAM_A64 (R310). -/
def execMboxDumpRamA64 (s : State) : Result :=
  .next (resume (takeMailbox bodyDumpRamA64 s))

/-- MBOX_INIT_REQ_QUEUE_A64 (R316). -/
def execMboxInitReqQueueA64 (s : State) : Result :=
  .next (resume (takeMailbox bodyInitReqQueueA64 s))

/-- MBOX_INIT_RES_QUEUE_A64 (R317). -/
def execMboxInitResQueueA64 (s : State) : Result :=
  .next (resume (takeMailbox bodyInitResQueueA64 s))

/-- MBOX_EXECUTE_IOCB_A64 (R334). -/
def execMboxExecuteIocbA64 (s : State) : Result :=
  .next (resume (takeMailbox bodyExecuteIocbA64 s))

/-- MBOX_READ_FOUR_RAM_WORDS (R308). -/
def execMboxReadFourRamWords (s : State) : Result :=
  .next (resume (takeMailbox bodyReadFourRamWords s))

/-- MBOX_INVALID: status `INVALID` (R380). -/
def execMboxInvalid (_op : Word) (s : State) : Result :=
  .next (resume (takeMailbox bodyInvalid s))

end Sys2Proof.Machine
end

