-- ==== Sys2Proof/Machine/Descriptors.lean ====
section
/-! DEFINITION. The meanings of the descriptors (spec/42_sxp.md): the engine has fetched the 64 bytes `b` from `o` (R402,
R405), dispatches them by their type, and the pass goes on to its end: selection, the command, the data phase, the
response, and the wait for the timer that posts it (R411 to R439). -/

namespace Sys2Proof.Machine

/-- IOCB_CMD: a command goes to `SelectDevice` (R402, R405, R413, R420). -/
def execIocbCmd (o : Origin) (b : List Byte) (s : State) : Result :=
  .next (resume (accept .selectDevice o b s))

/-- IOCB_CONT: a continuation is no head entry: `BadPacket` (R405, R411); in a continuation slot it is read by R425. -/
def execIocbCont (o : Origin) (b : List Byte) (s : State) : Result :=
  .next (resume (accept .badPacket o b s))

/-- IOCB_RESP: a response is no head entry: `BadPacket` (R405, R411). -/
def execIocbResp (o : Origin) (b : List Byte) (s : State) : Result :=
  .next (resume (accept .badPacket o b s))

/-- IOCB_MARKER: a marker goes to `SelectDevice`, and no further (R405, R412). -/
def execIocbMarker (o : Origin) (b : List Byte) (s : State) : Result :=
  .next (resume (accept .selectDevice o b s))

/-- IOCB_CMD64: a command with 64-bit segments goes to `SelectDevice` (R402, R405, R413, R420). -/
def execIocbCmd64 (o : Origin) (b : List Byte) (s : State) : Result :=
  .next (resume (accept .selectDevice o b s))

/-- IOCB_CONT64: a 64-bit continuation is no head entry: `BadPacket` (R405, R411); in a continuation slot it is read by R425. -/
def execIocbCont64 (o : Origin) (b : List Byte) (s : State) : Result :=
  .next (resume (accept .badPacket o b s))

/-- IOCB_UNKNOWN: an unknown entry type: `BadPacket` (R405, R411). -/
def execIocbUnknown (o : Origin) (b : List Byte) (s : State) : Result :=
  .next (resume (accept .badPacket o b s))

end Sys2Proof.Machine
end

