-- ==== Sys2Proof/Machine/FlashCycles.lean ====
section
/-! DEFINITION. The meanings of the flash bus cycles (spec/43_flash.md), at the address that FLASH_ADDR gives (R131). A cycle
of any byte is interpreted by mode and cycle (R500): the same byte is a command, an ignored byte or program data. -/

namespace Sys2Proof.Machine

/-- FLASH_UNLOCK_AA: the write cycle of its byte (R502, R500). -/
def execFlashUnlockAa (s : State) : Result :=
  .next (flashWrite Param.cmdUnlock1 s)

/-- FLASH_UNLOCK_55: the write cycle of its byte (R503, R500). -/
def execFlashUnlock55 (s : State) : Result :=
  .next (flashWrite Param.cmdUnlock2 s)

/-- FLASH_AUTOSELECT: the write cycle of its byte (R504, R500). -/
def execFlashAutoselect (s : State) : Result :=
  .next (flashWrite Param.cmdAutoselect s)

/-- FLASH_PROGRAM: the write cycle of its byte (R504, R500). -/
def execFlashProgram (s : State) : Result :=
  .next (flashWrite Param.cmdProgram s)

/-- FLASH_ERASE_SETUP: the write cycle of its byte (R504, R500). -/
def execFlashEraseSetup (s : State) : Result :=
  .next (flashWrite Param.cmdEraseSetup s)

/-- FLASH_CHIP_ERASE: the write cycle of its byte (R507, R500). -/
def execFlashChipErase (s : State) : Result :=
  .next (flashWrite Param.cmdChipErase s)

/-- FLASH_BLOCK_ERASE: the write cycle of its byte (R507, R500). -/
def execFlashBlockErase (s : State) : Result :=
  .next (flashWrite Param.cmdBlockErase s)

/-- FLASH_READ_ARRAY: the write cycle of its byte (R501, R500). -/
def execFlashReadArray (s : State) : Result :=
  .next (flashWrite Param.cmdReadArray s)

/-- FLASH_PROGRAM_DATA: the write cycle of the byte `d` (R512, R500). -/
def execFlashProgramData (d : Byte) (s : State) : Result :=
  .next (flashWrite d s)

/-- FLASH_READ: a read cycle (R510, R511). -/
def execFlashRead (s : State) : Result :=
  .next (flashRead s)

end Sys2Proof.Machine
end

