-- ==== Sys2Proof/Machine/Dispatch.lean ====
section
/-! DEFINITION. One arm for each instruction: a direct call of its meaning. -/

namespace Sys2Proof.Machine

def exec (i : Instr) (s : State) : Host.Outcome State Fault Refusal :=
  match i with
  | .readOdd off => Sys2Proof.Machine.execReadOdd off s
  | .writeOdd off v => Sys2Proof.Machine.execWriteOdd off v s
  | .accessUnmapped off w => Sys2Proof.Machine.execAccessUnmapped off w s
  | .readIdLo => Sys2Proof.Machine.execReadIdLo s
  | .writeIdLo v => Sys2Proof.Machine.execWriteIdLo v s
  | .readIdHi => Sys2Proof.Machine.execReadIdHi s
  | .writeIdHi v => Sys2Proof.Machine.execWriteIdHi v s
  | .readConf0 => Sys2Proof.Machine.execReadConf0 s
  | .writeConf0 v => Sys2Proof.Machine.execWriteConf0 v s
  | .readConf1 => Sys2Proof.Machine.execReadConf1 s
  | .writeConf1 v => Sys2Proof.Machine.execWriteConf1 v s
  | .readIcr => Sys2Proof.Machine.execReadIcr s
  | .writeIcr v => Sys2Proof.Machine.execWriteIcr v s
  | .readIsr => Sys2Proof.Machine.execReadIsr s
  | .writeIsr v => Sys2Proof.Machine.execWriteIsr v s
  | .readSema => Sys2Proof.Machine.execReadSema s
  | .writeSema v => Sys2Proof.Machine.execWriteSema v s
  | .readNvram => Sys2Proof.Machine.execReadNvram s
  | .writeNvram v => Sys2Proof.Machine.execWriteNvram v s
  | .readFlashData => Sys2Proof.Machine.execReadFlashData s
  | .writeFlashData v => Sys2Proof.Machine.execWriteFlashData v s
  | .readFlashAddr => Sys2Proof.Machine.execReadFlashAddr s
  | .writeFlashAddr v => Sys2Proof.Machine.execWriteFlashAddr v s
  | .readPioPort => Sys2Proof.Machine.execReadPioPort s
  | .writePioPort v => Sys2Proof.Machine.execWritePioPort v s
  | .readMbox0 => Sys2Proof.Machine.execReadMbox0 s
  | .writeMbox0 v => Sys2Proof.Machine.execWriteMbox0 v s
  | .readMbox1 => Sys2Proof.Machine.execReadMbox1 s
  | .writeMbox1 v => Sys2Proof.Machine.execWriteMbox1 v s
  | .readMbox2 => Sys2Proof.Machine.execReadMbox2 s
  | .writeMbox2 v => Sys2Proof.Machine.execWriteMbox2 v s
  | .readMbox3 => Sys2Proof.Machine.execReadMbox3 s
  | .writeMbox3 v => Sys2Proof.Machine.execWriteMbox3 v s
  | .readMbox4 => Sys2Proof.Machine.execReadMbox4 s
  | .writeMbox4 v => Sys2Proof.Machine.execWriteMbox4 v s
  | .readMbox5 => Sys2Proof.Machine.execReadMbox5 s
  | .writeMbox5 v => Sys2Proof.Machine.execWriteMbox5 v s
  | .readMbox6 => Sys2Proof.Machine.execReadMbox6 s
  | .writeMbox6 v => Sys2Proof.Machine.execWriteMbox6 v s
  | .readMbox7 => Sys2Proof.Machine.execReadMbox7 s
  | .writeMbox7 v => Sys2Proof.Machine.execWriteMbox7 v s
  | .readRiscPsr => Sys2Proof.Machine.execReadRiscPsr s
  | .writeRiscPsr v => Sys2Proof.Machine.execWriteRiscPsr v s
  | .readRiscPc => Sys2Proof.Machine.execReadRiscPc s
  | .writeRiscPc v => Sys2Proof.Machine.execWriteRiscPc v s
  | .readRiscMtr => Sys2Proof.Machine.execReadRiscMtr s
  | .writeRiscMtr v => Sys2Proof.Machine.execWriteRiscMtr v s
  | .readGpioData => Sys2Proof.Machine.execReadGpioData s
  | .writeGpioData v => Sys2Proof.Machine.execWriteGpioData v s
  | .readGpioEnable => Sys2Proof.Machine.execReadGpioEnable s
  | .writeGpioEnable v => Sys2Proof.Machine.execWriteGpioEnable v s
  | .readHccr => Sys2Proof.Machine.execReadHccr s
  | .readSxpPinsDiff b w => Sys2Proof.Machine.execReadSxpPinsDiff b w s
  | .accessDmaConf0 w => Sys2Proof.Machine.execAccessDmaConf0 w s
  | .accessDmaControl0 w => Sys2Proof.Machine.execAccessDmaControl0 w s
  | .accessDmaStatus0 w => Sys2Proof.Machine.execAccessDmaStatus0 w s
  | .accessDmaFifo0 w => Sys2Proof.Machine.execAccessDmaFifo0 w s
  | .accessDmaAddr00 w => Sys2Proof.Machine.execAccessDmaAddr00 w s
  | .accessDmaAddr01 w => Sys2Proof.Machine.execAccessDmaAddr01 w s
  | .accessDmaAddr02 w => Sys2Proof.Machine.execAccessDmaAddr02 w s
  | .accessDmaAddr03 w => Sys2Proof.Machine.execAccessDmaAddr03 w s
  | .accessDmaConf1 w => Sys2Proof.Machine.execAccessDmaConf1 w s
  | .accessDmaControl1 w => Sys2Proof.Machine.execAccessDmaControl1 w s
  | .accessDmaStatus1 w => Sys2Proof.Machine.execAccessDmaStatus1 w s
  | .accessDmaFifo1 w => Sys2Proof.Machine.execAccessDmaFifo1 w s
  | .accessDmaAddr10 w => Sys2Proof.Machine.execAccessDmaAddr10 w s
  | .accessDmaAddr11 w => Sys2Proof.Machine.execAccessDmaAddr11 w s
  | .accessDmaAddr12 w => Sys2Proof.Machine.execAccessDmaAddr12 w s
  | .accessDmaAddr13 w => Sys2Proof.Machine.execAccessDmaAddr13 w s
  | .hccrNop low => Sys2Proof.Machine.execHccrNop low s
  | .hccrResetRisc low => Sys2Proof.Machine.execHccrResetRisc low s
  | .hccrPauseRisc low => Sys2Proof.Machine.execHccrPauseRisc low s
  | .hccrReleaseRisc low => Sys2Proof.Machine.execHccrReleaseRisc low s
  | .hccrSingleStep low => Sys2Proof.Machine.execHccrSingleStep low s
  | .hccrSetHostInt low => Sys2Proof.Machine.execHccrSetHostInt low s
  | .hccrClearHostInt low => Sys2Proof.Machine.execHccrClearHostInt low s
  | .hccrClearRiscInt low => Sys2Proof.Machine.execHccrClearRiscInt low s
  | .hccrUndefined cmd low => Sys2Proof.Machine.execHccrUndefined cmd low s
  | .mboxNoOp => Sys2Proof.Machine.execMboxNoOp s
  | .mboxLoadRam => Sys2Proof.Machine.execMboxLoadRam s
  | .mboxExecFirmware => Sys2Proof.Machine.execMboxExecFirmware s
  | .mboxDumpRam => Sys2Proof.Machine.execMboxDumpRam s
  | .mboxWriteRamWord => Sys2Proof.Machine.execMboxWriteRamWord s
  | .mboxReadRamWord => Sys2Proof.Machine.execMboxReadRamWord s
  | .mboxMailboxRegTest => Sys2Proof.Machine.execMboxMailboxRegTest s
  | .mboxVerifyChecksum => Sys2Proof.Machine.execMboxVerifyChecksum s
  | .mboxAboutFirmware => Sys2Proof.Machine.execMboxAboutFirmware s
  | .mboxInitReqQueue => Sys2Proof.Machine.execMboxInitReqQueue s
  | .mboxInitResQueue => Sys2Proof.Machine.execMboxInitResQueue s
  | .mboxExecuteIocb => Sys2Proof.Machine.execMboxExecuteIocb s
  | .mboxWakeUp => Sys2Proof.Machine.execMboxWakeUp s
  | .mboxStopFirmware => Sys2Proof.Machine.execMboxStopFirmware s
  | .mboxAbort => Sys2Proof.Machine.execMboxAbort s
  | .mboxAbortDevice => Sys2Proof.Machine.execMboxAbortDevice s
  | .mboxAbortTarget => Sys2Proof.Machine.execMboxAbortTarget s
  | .mboxBusReset => Sys2Proof.Machine.execMboxBusReset s
  | .mboxStopQueue => Sys2Proof.Machine.execMboxStopQueue s
  | .mboxStartQueue => Sys2Proof.Machine.execMboxStartQueue s
  | .mboxSingleStepQueue => Sys2Proof.Machine.execMboxSingleStepQueue s
  | .mboxAbortQueue => Sys2Proof.Machine.execMboxAbortQueue s
  | .mboxGetDevQueueStatus => Sys2Proof.Machine.execMboxGetDevQueueStatus s
  | .mboxGetFirmwareStatus => Sys2Proof.Machine.execMboxGetFirmwareStatus s
  | .mboxGetInitScsiId => Sys2Proof.Machine.execMboxGetInitScsiId s
  | .mboxGetSelectTimeout => Sys2Proof.Machine.execMboxGetSelectTimeout s
  | .mboxGetRetryCount => Sys2Proof.Machine.execMboxGetRetryCount s
  | .mboxGetTagAgeLimit => Sys2Proof.Machine.execMboxGetTagAgeLimit s
  | .mboxGetClockRate => Sys2Proof.Machine.execMboxGetClockRate s
  | .mboxGetActNegState => Sys2Proof.Machine.execMboxGetActNegState s
  | .mboxGetAsyncDataSetupTime => Sys2Proof.Machine.execMboxGetAsyncDataSetupTime s
  | .mboxGetPciParams => Sys2Proof.Machine.execMboxGetPciParams s
  | .mboxGetTargetParams => Sys2Proof.Machine.execMboxGetTargetParams s
  | .mboxGetDevQueueParams => Sys2Proof.Machine.execMboxGetDevQueueParams s
  | .mboxGetResetDelayParams => Sys2Proof.Machine.execMboxGetResetDelayParams s
  | .mboxSetInitScsiId => Sys2Proof.Machine.execMboxSetInitScsiId s
  | .mboxSetSelectTimeout => Sys2Proof.Machine.execMboxSetSelectTimeout s
  | .mboxSetRetryCount => Sys2Proof.Machine.execMboxSetRetryCount s
  | .mboxSetTagAgeLimit => Sys2Proof.Machine.execMboxSetTagAgeLimit s
  | .mboxSetClockRate => Sys2Proof.Machine.execMboxSetClockRate s
  | .mboxSetActNegState => Sys2Proof.Machine.execMboxSetActNegState s
  | .mboxSetAsyncDataSetupTime => Sys2Proof.Machine.execMboxSetAsyncDataSetupTime s
  | .mboxSetPciParams => Sys2Proof.Machine.execMboxSetPciParams s
  | .mboxSetTargetParams => Sys2Proof.Machine.execMboxSetTargetParams s
  | .mboxSetDevQueueParams => Sys2Proof.Machine.execMboxSetDevQueueParams s
  | .mboxSetResetDelayParams => Sys2Proof.Machine.execMboxSetResetDelayParams s
  | .mboxReturnBiosBlockAddr => Sys2Proof.Machine.execMboxReturnBiosBlockAddr s
  | .mboxWriteFourRamWords => Sys2Proof.Machine.execMboxWriteFourRamWords s
  | .mboxExecuteBiosIocb => Sys2Proof.Machine.execMboxExecuteBiosIocb s
  | .mboxSetFirmwareFeatures => Sys2Proof.Machine.execMboxSetFirmwareFeatures s
  | .mboxGetFirmwareFeatures => Sys2Proof.Machine.execMboxGetFirmwareFeatures s
  | .mboxLoadRamA64 => Sys2Proof.Machine.execMboxLoadRamA64 s
  | .mboxDumpRamA64 => Sys2Proof.Machine.execMboxDumpRamA64 s
  | .mboxInitReqQueueA64 => Sys2Proof.Machine.execMboxInitReqQueueA64 s
  | .mboxInitResQueueA64 => Sys2Proof.Machine.execMboxInitResQueueA64 s
  | .mboxExecuteIocbA64 => Sys2Proof.Machine.execMboxExecuteIocbA64 s
  | .mboxReadFourRamWords => Sys2Proof.Machine.execMboxReadFourRamWords s
  | .mboxInvalid op => Sys2Proof.Machine.execMboxInvalid op s
  | .iocbCmd o b => Sys2Proof.Machine.execIocbCmd o b s
  | .iocbCont o b => Sys2Proof.Machine.execIocbCont o b s
  | .iocbResp o b => Sys2Proof.Machine.execIocbResp o b s
  | .iocbMarker o b => Sys2Proof.Machine.execIocbMarker o b s
  | .iocbCmd64 o b => Sys2Proof.Machine.execIocbCmd64 o b s
  | .iocbCont64 o b => Sys2Proof.Machine.execIocbCont64 o b s
  | .iocbUnknown o b => Sys2Proof.Machine.execIocbUnknown o b s
  | .flashUnlockAa => Sys2Proof.Machine.execFlashUnlockAa s
  | .flashUnlock55 => Sys2Proof.Machine.execFlashUnlock55 s
  | .flashAutoselect => Sys2Proof.Machine.execFlashAutoselect s
  | .flashProgram => Sys2Proof.Machine.execFlashProgram s
  | .flashEraseSetup => Sys2Proof.Machine.execFlashEraseSetup s
  | .flashChipErase => Sys2Proof.Machine.execFlashChipErase s
  | .flashBlockErase => Sys2Proof.Machine.execFlashBlockErase s
  | .flashReadArray => Sys2Proof.Machine.execFlashReadArray s
  | .flashProgramData d => Sys2Proof.Machine.execFlashProgramData d s
  | .flashRead => Sys2Proof.Machine.execFlashRead s

end Sys2Proof.Machine
end

