-- ==== Sys2Proof/Machine/Events.lean ====
section
/-! DEFINITION. Where the next instruction comes from, and the events that are no row of the opcode table: timer fires
(R448, R509, R514), stores to host memory (R606) and the PCI reset (R701). -/

namespace Sys2Proof.Machine

/-- What decoding depends on in a state (R30, R203, R500). -/
def decodeCtx (s : State) : DecodeCtx where
  gen := s.inst.gen
  conf1 := s.reg.conf1
  programSetup := s.flash.mode == .programSetup
  nums := s.inst.nums

/-- A timer's fire event: disarmed first, then its handler (R448, R509, R514, R605). -/
def fireTimer (t : Timer) (s : State) : State :=
  match t with
  | .sxp => kick { s with sxp := { s.sxp with timerArmed := false } }
  | .eraseAccept => { s with flash := flAcceptFire s.inst s.flash }
  | .flashDone => { s with flash := flDoneFire s.flash }

/-- What a step has to do: run the instruction that a request encodes, go to a state, or refuse an event. -/
inductive Work where
  | run (r : Request) (s : State)
  | go (s : State)
  | refuse (r : Refusal)

/-- A host or timer event (R606). -/
def eventWork (e : HostEvent) (s : State) : Work :=
  match e with
  | .read off => .run (.regRead off) s
  | .write off v => .run (.regWrite off v) s
  | .store a bytes => .go (hostStore s a bytes)
  | .fire t => if timerArmed t s then .go (fireTimer t s) else .refuse (.timerNotArmed t)
  | .pciReset => .go (controllerReset s)
  | .flashWrite d => .run (.flashWrite d) s
  | .flashRead => .run .flashRead s

/-- In the middle of a pass: an idle engine takes a mailbox command or a descriptor, any other one goes on to the end of the
pass (R400, R401, R402, R405). -/
def passWork (s : State) : Work :=
  if s.sxp.state = .idle then
    if s.sxp.mboxCmdPending then .run (.mailbox s.reg.mbin[0]) s
    else
      match fetch s with
      | .descriptor o b t => .run (.iocb o b) t
      | .nothing _ | .aborted _ _ _ | .dmaError _ => .go (resume s)
  else .go (resume s)

/-- The work of the next step: the pass that is running, else the next event of the script, else nothing (log 16, 18). -/
def nextWork (s : State) : Work :=
  if s.sxp.running then passWork s
  else
    match s.env.script with
    | [] => .go s
    | e :: rest => eventWork e { s with env := { s.env with script := rest } }

/-! ### Placing a request where the next step takes it -/

/-- An event at the head of the script, no pass running. -/
def placeEvent (e : HostEvent) (s : State) : State :=
  { s with env := { s.env with script := e :: s.env.script }, sxp := { s.sxp with running := false } }

/-- The bank selection of the opcode table, for an offset that is no fixed register: GEN_OLD, RISC bank. -/
def selectTableBank (off : Word) (s : State) : State :=
  if (lookupReg (fixedRegs tableNums) off).isSome then s
  else
    { s with
      inst := { s.inst with gen := .old }
      reg := { s.reg with conf1 := s.reg.conf1 &&& ~~~((1 : Word) <<< Param.conf1SxpSelBit) } }

/-- The flash not waiting for program data. -/
def leaveProgramSetup (s : State) : State :=
  if s.flash.mode = .programSetup then { s with flash := flMode .readArray s.flash } else s

/-- The request placed where the next step takes it, with the open numbers that the table's words are for. -/
def placeRequest (r : Request) (s : State) : State :=
  let s := { s with faulted := none, inst := { s.inst with nums := tableNums } }
  match r with
  | .regRead off => placeEvent (.read off) (selectTableBank off s)
  | .regWrite off v => placeEvent (.write off v) (selectTableBank off s)
  | .flashWrite d => placeEvent (.flashWrite d) (leaveProgramSetup s)
  | .flashRead => placeEvent .flashRead s
  | .mailbox op =>
    { s with
      reg := { s.reg with mbin := (Vector.replicate 8 (0 : Word)).set 0 op }
      sxp := { s.sxp with state := .idle, mboxCmdPending := true, running := true } }
  | .iocb o b =>
    let req := match o with
      | .direct a => DirectReq.exec a false
      | .bios a => DirectReq.bios a
      | .ring _ => DirectReq.exec 0 false
    let addr := match req with
      | .exec a _ => a
      | .bios a => a
    { s with
      sxp := { s.sxp with state := .idle, mboxCmdPending := false, directReq := some req, running := true }
      env := { s.env with
        hostMem := writeBytes s.env.hostMem addr b
        oracle := { s.env.oracle with dma := true :: s.env.oracle.dma } } }

end Sys2Proof.Machine
end

