-- ==== Sys2Proof/Machine/Step.lean ====
section
/-! DEFINITION. One step of the machine (R606): the next work is found, decoded and run. -/

namespace Sys2Proof.Machine

/-- One step. Where a fault is recorded no event of any agent is enabled (R603). -/
def step (s : State) : Host.Outcome State Fault Refusal :=
  match s.faulted with
  | some f => .fault (.internal f)
  | none =>
    match nextWork s with
    | .go t => .next t
    | .refuse r => .refused r
    | .run r t =>
      match decode (decodeCtx t) r with
      | .ok i => exec i t
      | .error e => .refused (.undecodable e)

/-- The state in which the next step runs the instruction of a word of the opcode table (log 16, 24). -/
def State.withFetchWord (s : State) (nbits w : Nat) : State := placeRequest (tableRequest nbits w) s

end Sys2Proof.Machine
end

