-- ==== Sys2Proof/Safety.lean ====
section
/-! DEFINITION. What a good state and a good run are, and the shapes in which the claims give the state after an instruction:
a mailbox result that waits for its posting (R401, R437), and a descriptor whose completion waits for the timer (R430, R435,
R437, R439). -/

namespace Sys2Proof.Safety

open Sys2Proof.Machine

/-! ### Stuck states -/

/-- The block is not stuck: no internal fault is recorded (R603). -/
def noFault (s : State) : Bool := s.faulted.isNone

/-! ### Memories -/

/-- Every listed cell is in an address space of `n` cells. -/
def cellsBelow {w : Nat} (n : Nat) (m : List (Nat × BitVec w)) : Bool := m.all fun e => e.1 < n

/-- The three memories are in canonical form and inside their address spaces (R59, R69, R90). -/
def memoriesWf (s : State) : Bool :=
  Memory.wf hostDefault s.env.hostMem && cellsBelow (2 ^ 64) s.env.hostMem
    && Memory.wf fwDefault s.fw && cellsBelow (2 ^ 16) s.fw
    && Memory.wf flashDefault s.flash.array && cellsBelow (flashBytes s.inst.flashSize) s.flash.array

/-! ### Registers -/

/-- The fields that a register always reads as 0: the soft-reset bit of ICR (R207), every bit of ISR but `ISR_RISC_INT`
(R35), every bit of SEMA but its two meaningful ones (R36, R209). -/
def registersWf (r : Regs) : Bool :=
  r.icr &&& Param.icrSoftReset == 0 && r.isr &&& ~~~Param.isrRiscInt == 0 && r.sema &&& ~~~Param.semaMask == 0

/-! ### The flash unit -/

/-- The flash's completion timer runs: a program or an erase is busy (R519). -/
def flashBusy : FlMode → Bool
  | .programming | .erasing | .chipErasing => true
  | .readArray | .autoselect | .programSetup | .programError | .eraseAccept => false

/-- The status bits beside the toggle bit, which a status read flips, are those of the mode; the toggle bit too is clear
where no status is read (R67, R501, R509 to R514): an error after a program error alone, the timeout while erasing blocks
alone. -/
def flashStatusWf (m : FlMode) (st : Byte) : Bool :=
  match m with
  | .readArray | .autoselect | .programSetup => st == 0
  | .programming | .eraseAccept | .chipErasing => st &&& ~~~Param.fstToggle == 0
  | .programError => st &&& ~~~Param.fstToggle == Param.fstError
  | .erasing => st &&& ~~~Param.fstToggle == Param.fstTimeout

/-- The invariants of the flash unit: mode and cycle (R518), timers (R519), the queued blocks (R68) and the status bits of
each mode (R67). -/
def flashWf (f : Flash) : Bool :=
  (f.cycle == 0 || f.mode == .readArray || f.mode == .autoselect)
    && f.doneArmed == flashBusy f.mode
    && f.acceptArmed == (f.mode == .eraseAccept)
    && (f.mode == .eraseAccept || f.pending == .replicate 8 false)
    && flashStatusWf f.mode f.status

/-! ### The engine -/

/-- The states of a posting under the semaphore (R437, R438, R442, R443). -/
def mailboxPosting : SxpState → Bool
  | .scheduleMboxInterrupt | .mboxWaitTimer | .acquireMboxSemaphore | .setRiscInterrupt => true
  | .idle | .selectDevice | .selectionTimeout | .sendCdb | .badPacket | .completeCommand | .scheduleRiscInterrupt
  | .scheduleTimerSilence | .waitTimer => false

/-- A request descriptor is held: in every state but `Idle` and those of a mailbox result's posting (R449). -/
def holdsPacket (x : Sxp) : Bool :=
  x.state != .idle && !(mailboxPosting x.state && x.postKind == some .mboxResult)

/-- A response descriptor is held: from `CompleteCommand` on (R430 to R443). -/
def holdsResponse (x : Sxp) : Bool :=
  match x.state with
  | .idle | .selectDevice | .selectionTimeout | .sendCdb | .badPacket => false
  | .completeCommand | .scheduleRiscInterrupt | .setRiscInterrupt | .scheduleMboxInterrupt | .mboxWaitTimer
  | .acquireMboxSemaphore | .scheduleTimerSilence | .waitTimer => holdsPacket x

/-- The completion path that goes with a state (R57, R430). -/
def postKindWf (x : Sxp) : Bool :=
  match x.state with
  | .idle | .selectDevice | .selectionTimeout | .sendCdb | .badPacket | .completeCommand => x.postKind == none
  | .scheduleRiscInterrupt => x.postKind == some .ring
  | .scheduleTimerSilence | .waitTimer => x.postKind == some .silent
  | .scheduleMboxInterrupt | .mboxWaitTimer | .acquireMboxSemaphore =>
    x.postKind == some .fastPost || x.postKind == some .mboxOnly || x.postKind == some .mboxAndRing
      || x.postKind == some .mboxResult
  | .setRiscInterrupt =>
    x.postKind != none && x.postKind != some .silent && (!x.timerArmed || x.postKind == some .ring)

/-- `T_SXP` is armed only where the engine waits for it (R448). -/
def timerWf (x : Sxp) : Bool :=
  !x.timerArmed || x.state == .setRiscInterrupt || x.state == .mboxWaitTimer || x.state == .waitTimer

/-- An initialised ring has a length, and its cursor is inside it (R52, R53). -/
def ringsWf (x : Sxp) : Bool :=
  (!x.reqInit || x.reqOut.toNat < x.reqLen.toNat) && (!x.respInit || x.respIn.toNat < x.respLen.toNat)

/-- The abort queue is bounded, holds no slot twice, and holds only slots of the ring (R54, R324). -/
def abortQWf (x : Sxp) : Bool :=
  x.abortQ.length ≤ Config.abortQLen && decide x.abortQ.Nodup && x.abortQ.all fun k => k.toNat < x.reqLen.toNat

/-- A PIO buffer has a word left to read (R62). -/
def pioWf (x : Sxp) : Bool :=
  match x.pioBuf with
  | none => true
  | some p => p.idx < p.words.length

/-- The invariant of the engine, in the middle of a pass or between two (R49 to R62, R449). -/
def engineWf (x : Sxp) : Bool :=
  x.pkt.isSome == holdsPacket x && x.pktResp.isSome == holdsResponse x && postKindWf x && timerWf x && ringsWf x
    && abortQWf x && pioWf x && (x.directReq == none || x.state == .idle)

/-- What the engine waits for when no pass runs (R400, R450): in `Idle`, no work that it could take; in a waiting state, the
timer or the semaphore. -/
def waits (s : State) : Bool :=
  match s.sxp.state with
  | .idle => !s.sxp.mboxCmdPending && s.sxp.directReq == none && (ringBlocked s).isSome
  | .setRiscInterrupt | .mboxWaitTimer | .waitTimer => s.sxp.timerArmed
  | .acquireMboxSemaphore => semaLocked s.reg.sema
  | .selectDevice | .selectionTimeout | .sendCdb | .badPacket | .completeCommand | .scheduleRiscInterrupt
  | .scheduleMboxInterrupt | .scheduleTimerSilence => false

/-- The block is at rest: no pass runs, and the engine waits or a fault is recorded (R81, R450). -/
def atRest (s : State) : Bool := !s.sxp.running && (waits s || s.faulted.isSome)

/-- The invariant of every step: the engine's, and rest between passes. -/
def engineInv (s : State) : Bool := engineWf s.sxp && (s.sxp.running || atRest s)

/-! ### Calls of the DMA interface -/

/-- The oracle after `n` calls of the DMA interface: the next `n` queued answers are gone, and each call past the end of the
queue was a free draw (log 12). No other answer is used. -/
def dmaAsked (n : Nat) (o : Oracle) : Oracle :=
  { o with dma := o.dma.drop n, draws := o.draws + (n - o.dma.length) }

/-! ### The state after a mailbox command -/

/-- The pending command is taken, its result is staged, and the engine waits for `T_SXP` to post it (R401, R437). -/
def resultStaged (status : Word) (outs : List (Fin 8 × Word)) (s : State) : State :=
  { s with
    sxp := { s.sxp with
      mboxCmdPending := false
      stageOut := stagedWords status outs
      mboutMask := outMask outs
      postKind := some .mboxResult
      postDelay := Config.mboxOverhead
      state := .mboxWaitTimer
      timerArmed := true
      running := false }
    env := { s.env with lastSuspend := some .waitTimer } }

/-! ### The state after a descriptor -/

/-- The engine waits for `T_SXP` in state `st`, to post by path `k` the response `r` to packet `p`. -/
def postingWait (st : SxpState) (k : PostKind) (p : Packet) (r : Response) (delay : Nat) (s : State) : State :=
  { s with
    sxp := { s.sxp with
      pkt := some p
      pktResp := some r
      postKind := some k
      postDelay := delay
      state := st
      timerArmed := true
      running := false }
    env := { s.env with lastSuspend := some .waitTimer } }

/-- The consumer moved past the packet of a ring slot: on by its entry count, at least 1, modulo the ring (R431). -/
def consumed (p : Packet) (s : State) : State :=
  { s with sxp := { s.sxp with
      reqOut := BitVec.ofNat 16 ((s.sxp.reqOut.toNat + max 1 (byteAt p.bytes 1).toNat) % s.sxp.reqLen.toNat) } }

/-- The completion of a direct or BIOS request in mailboxes 0 to 3 (R433). -/
def completionStaged (r : Response) (s : State) : State :=
  { s with sxp := { s.sxp with
      stageOut := #v[Param.complete, r.completionStatus, r.scsiStatus, r.residual.extractLsb' 0 16,
        s.sxp.stageOut[4], s.sxp.stageOut[5], s.sxp.stageOut[6], s.sxp.stageOut[7]]
      mboutMask := 0x0F } }

/-- A fast posting in mailboxes 0 to 2 (R432). -/
def fastPostStaged (r : Response) (s : State) : State :=
  { s with sxp := { s.sxp with
      stageOut := #v[Param.asyncCmdCmplt, r.handle.extractLsb' 0 16, r.handle.extractLsb' 16 16, s.sxp.stageOut[3],
        s.sxp.stageOut[4], s.sxp.stageOut[5], s.sxp.stageOut[6], s.sxp.stageOut[7]]
      mboutMask := 0x07 } }

/-- A marker or a skipped slot: its response is written with no interrupt (R430). -/
def silentEntry (p : Packet) : Bool := entryType p.bytes == Param.etMarker || p.skip

/-- A command that ended without any error. -/
def cleanResponse (r : Response) : Bool := r.completionStatus == Param.csComplete && r.scsiStatus == 0

/-- The completion of packet `p` by response `r`: the path that R430 chooses, up to the wait for `T_SXP`. -/
def completionWaits (p : Packet) (r : Response) (delay : Nat) (s : State) : State :=
  match p.origin with
  | .bios _ => postingWait .mboxWaitTimer .mboxOnly p r delay (completionStaged r s)
  | .direct _ => postingWait .mboxWaitTimer .mboxAndRing p r delay (completionStaged r s)
  | .ring _ =>
    if silentEntry p then postingWait .waitTimer .silent p r delay (consumed p s)
    else if s.sxp.fastPost && cleanResponse r then
      postingWait .mboxWaitTimer .fastPost p r delay (fastPostStaged r (consumed p s))
    else postingWait .setRiscInterrupt .ring p r delay (consumed p s)

/-! ### A command's device, call and response, by the bytes of its descriptor -/

/-- The path, target and LUN that a command names become the current ones (R150, R413). -/
def deviceSelected (b : List Byte) (s : State) : State :=
  { s with sxp := { s.sxp with
      curPath := (byteAt b 9).extractLsb' 7 1, curTarget := (byteAt b 9).extractLsb' 0 7, curLun := byteAt b 8 } }

/-- A command names a device that the block can reach: path 0 and a target id in range (R413). -/
def reachable (n : Inst) (b : List Byte) : Bool :=
  (byteAt b 9).extractLsb' 7 1 == 0 && ((byteAt b 9).extractLsb' 0 7).toNat < n.numTargets

/-- The call that gives a target its command: the bytes from byte 20 on, as many as the CDB length says, at most 12
(R142, R420). -/
def commandCall (b : List Byte) : OracleCall :=
  .command ((byteAt b 9).extractLsb' 0 7) (byteAt b 8)
    ((List.range (min (le16 b 10).toNat 12)).map fun k => byteAt b (20 + k))

/-- A fresh response: the sequence is byte 2 and the handle bytes 4 to 7 of the request, every other field is 0 (R406). -/
def freshResponse (b : List Byte) : Response where
  sequence := byteAt b 2
  hflags := 0
  handle := le32 b 4
  scsiStatus := 0
  completionStatus := 0
  stateFlags := 0
  statusFlags := 0
  time := 0
  senseLen := 0
  residual := 0
  sense := []

/-- The response to a command with SCSI status `st` and `dev` bytes of the device against `host` bytes of the host: complete,
overrun or underrun, with the residual, modulo 2^32 (R420, R423, R426; log 29). -/
def lengthsCompared (b : List Byte) (st : Byte) (dev host : Nat) : Response :=
  { freshResponse b with
    scsiStatus := st.zeroExtend 16
    completionStatus := if dev = host then Param.csComplete
      else if host < dev then Param.csDataOverrun else Param.csDataUnderrun
    residual := if dev < host then BitVec.ofNat 32 (host - dev) else 0 }

/-- The response to an executed ring or direct command, before any sense data (R420). -/
def commandResponse (b : List Byte) (st : Byte) (rate dev host : Nat) : Response :=
  { lengthsCompared b st dev host with
    stateFlags := Param.sfGotBus ||| Param.sfGotTarget ||| Param.sfSentCdb ||| Param.sfGotStatus
      ||| (if min dev host = 0 then 0 else Param.sfXfrdData) ||| Param.sfXferComplete
    time := Config.respTime (min dev host) (some rate) }

/-- The response with the sense data in it, at most 32 bytes (R424, R76; log 29). -/
def withSense (sense : List Byte) (r : Response) : Response :=
  { r with
    stateFlags := r.stateFlags ||| Param.sfGotSense
    senseLen := BitVec.ofNat 16 (min 32 sense.length)
    sense := sense.take 32 }

/-! ### The segments of a command -/

/-- The segments in a command's own descriptor, in the two forms (R142, R143, R425). -/
def commandSegments (b : List Byte) : List Segment :=
  if byteAt b 0 = Param.etCmd64 then [segment64 b 40, segment64 b 52]
  else [segment32 b 32, segment32 b 40, segment32 b 48, segment32 b 56]

/-- The 64 bytes of the `j`-th slot after ring slot `slot`. -/
def continuationBytes (slot : Word) (j : Nat) (s : State) : List Byte :=
  readBytes s.env.hostMem
    (s.sxp.reqBase + 64 * (BitVec.ofNat 16 ((slot.toNat + 1 + j) % s.sxp.reqLen.toNat)).zeroExtend 64) 64

/-- The segments of a continuation, in the two forms (R144, R145, R425). -/
def continuationSegments (c : List Byte) : List Segment :=
  if byteAt c 0 = Param.etCont then
    [segment32 c 8, segment32 c 16, segment32 c 24, segment32 c 32, segment32 c 40, segment32 c 48, segment32 c 56]
  else [segment64 c 4, segment64 c 16, segment64 c 28, segment64 c 40, segment64 c 52]

/-- The segments that the command `b` in ring slot `slot` has in hand once `k` continuation slots are read (R425). -/
def segmentsAfter (slot : Word) (b : List Byte) (s : State) (k : Nat) : List Segment :=
  (commandSegments b).take (le16 b 18).toNat
    ++ (List.range k).flatMap fun j => continuationSegments (continuationBytes slot j s)

/-- A slot holds a continuation, of either kind (R425). -/
def isContinuation (c : List Byte) : Bool := byteAt c 0 == Param.etCont || byteAt c 0 == Param.etCont64

/-- The walk of the command `b` in ring slot `slot` comes to its `j`-th continuation slot: the entry count covers it, the
segments in hand are still too few, and the slots before it hold continuations (R425). -/
def walkReaches (slot : Word) (b : List Byte) (s : State) (j : Nat) : Prop :=
  j + 1 < (byteAt b 1).toNat ∧ (∀ k, k ≤ j → (segmentsAfter slot b s k).length < (le16 b 18).toNat)
    ∧ ∀ k, k < j → isContinuation (continuationBytes slot k s) = true

/-- `segs` are the segments of the command `b` from `o`, found with `n` continuation slots read: a direct command has its own
alone; a ring command reads slots until the segments it counts are found or its entries are used up, each of a continuation
type (R425). -/
def segmentsFound (o : Origin) (b : List Byte) (s : State) (n : Nat) (segs : List Segment) : Prop :=
  let want := (le16 b 18).toNat
  match o with
  | .direct _ => n = 0 ∧ segs = (commandSegments b).take want
  | .bios _ => False
  | .ring slot =>
    n ≤ (byteAt b 1).toNat - 1
      ∧ (∀ j, j < n → (segmentsAfter slot b s j).length < want ∧ isContinuation (continuationBytes slot j s) = true)
      ∧ (n = (byteAt b 1).toNat - 1 ∨ want ≤ (segmentsAfter slot b s n).length)
      ∧ segs = (segmentsAfter slot b s n).take want

/-- The bytes that segments hold together (R420). -/
def segmentBytes (segs : List Segment) : Nat := (segs.map (·.count)).sum

/-- The host address of byte `k` of a transfer over segments (R420). -/
def byteAddr : List Segment → Nat → Addr
  | [], _ => 0
  | g :: gs, k => if k < g.count then g.base + BitVec.ofNat 64 k else byteAddr gs (k - g.count)

/-- How many of the segments a transfer of `n` bytes touches: each is one call of the DMA interface (R420). -/
def piecesUsed : List Segment → Nat → Nat
  | [], _ => 0
  | g :: gs, n => (if min g.count n = 0 then 0 else 1) + piecesUsed gs (n - g.count)

/-- How many bytes the first `k` segments with bytes in them hold: what a transfer has moved before its call number `k`. -/
def bytesInPieces : List Segment → Nat → Nat
  | [], _ => 0
  | g :: gs, k => if g.count = 0 then bytesInPieces gs k else if k = 0 then 0 else g.count + bytesInPieces gs (k - 1)

/-! ### What memory holds after a store -/

/-- `m'` is `m` with `bytes` stored from host address `a` on: the stored bytes read back, and every other address reads as
before (R90). -/
def storedAt (m m' : List Host.Cell) (a : Addr) (bytes : List Byte) : Prop :=
  (∀ j, j < bytes.length → Memory.read hostDefault m' (a + BitVec.ofNat 64 j).toNat = bytes.getD j 0)
    ∧ ∀ x, (∀ j, j < bytes.length → (a + BitVec.ofNat 64 j).toNat ≠ x) →
        Memory.read hostDefault m' x = Memory.read hostDefault m x

/-- `m'` is `m` with `bytes` stored over segments: each byte's address holds the last byte that has it, and every other address
reads as before (R420). -/
def scatteredOver (m m' : List Host.Cell) (segs : List Segment) (bytes : List Byte) : Prop :=
  (∀ k, k < bytes.length → (∀ k', k < k' → k' < bytes.length → byteAddr segs k' ≠ byteAddr segs k) →
      Memory.read hostDefault m' (byteAddr segs k).toNat = bytes.getD k 0)
    ∧ ∀ x, (∀ k, k < bytes.length → (byteAddr segs k).toNat ≠ x) →
        Memory.read hostDefault m' x = Memory.read hostDefault m x

/-- `m'` is the flash array `m` with the blocks that `gone` selects erased: their bytes read 0xFF, every other byte of the
array reads as before (R509, R515). -/
def blocksErased (z : FlashSize) (gone : Fin 8 → Bool) (m m' : List Host.Cell) : Prop :=
  ∀ a, a < flashBytes z →
    Memory.read flashDefault m' a =
      if gone (Fin.ofNat 8 (a / blockSize z)) then 0xFF else Memory.read flashDefault m a

/-! ### The state after a posting -/

/-- The engine is back in `Idle`, with its descriptors gone (R440, R443). -/
def idleAgain (s : State) : State :=
  { s with sxp := { s.sxp with pkt := none, pktResp := none, postKind := none, state := .idle, timerArmed := false,
                               running := false } }

/-- The completion of a pending slot that was aborted: it is incomplete, and goes to no target (R404, R430). -/
def slotSkipped (slot : Word) (b : List Byte) (s : State) : State :=
  completionWaits ⟨b, .ring slot, true⟩
    { freshResponse b with completionStatus := Param.csIncomplete, statusFlags := Param.stfAborted } Config.mboxOverhead s

/-- `out` is the outcome of a pass that comes, in the state `p`, to an idle engine: the loop goes on from `p` (R443), and takes
a pending mailbox command, else a direct request, else the head of the request ring (R614); if there is nothing to take it
suspends for the reason that holds (R401 to R405). A pass takes as many steps as it needs (R450; log 36). -/
def goesOn (p : State) (out : Result) : Prop :=
  let t : State := { p with sxp := { p.sxp with running := true } }
  out = .next (resume p)
    ∧ if p.sxp.mboxCmdPending then out = exec (mailboxInstr p.inst.nums p.reg.mbin[0]) t
      else
        match fetch t with
        | .nothing why => out = .next { p with
            sxp := { p.sxp with running := false }, env := { p.env with lastSuspend := some why } }
        | .descriptor o b u => out = exec (iocbInstr o b) u
        | .aborted slot b u => out = .next (slotSkipped slot b u)
        | .dmaError u => out = .next { u with faulted := some .dmaFailure, sxp := { u.sxp with running := false } }

/-- The output mailboxes after a posting: the staged word where the mask has its bit, else the word before (R442). -/
def outputsPosted (s : State) (mb : Vector Word 8) : Prop :=
  ∀ k : Fin 8, mb[k] = if s.sxp.mboutMask.getLsbD k then s.sxp.stageOut[k] else s.reg.mbout[k]

/-- The producer of the response ring after one more entry (R441). -/
def nextRespIn (x : Sxp) : Word := BitVec.ofNat 16 ((x.respIn.toNat + 1) % x.respLen.toNat)

/-- `out` is the outcome of a posting from `s` without a response entry: the outputs, the lock, the interrupt, and a pass that
goes on in `Idle` (R442, R443, R615). -/
def postsOutputs (s : State) (out : Result) : Prop :=
  ∃ mb : Vector Word 8, outputsPosted s mb
    ∧ goesOn (idleAgain { s with
        reg := { s.reg with sema := s.reg.sema ||| Param.semaLock, isr := s.reg.isr ||| Param.isrRiscInt, mbout := mb }
        sxp := { s.sxp with mboutMask := 0 } }) out

/-- `out` is the outcome of a posting from `s` with the response entry `r`, whose DMA call takes the first queued answer and
leaves `q`: as `postsOutputs`, with the entry at the producer's slot and the producer moved on and posted (R441, R443). -/
def postsOutputsAndEntry (r : Response) (q : List Bool) (s : State) (out : Result) : Prop :=
  ∃ (mb : Vector Word 8) (m : List Host.Cell), outputsPosted s mb
    ∧ storedAt s.env.hostMem m (s.sxp.respBase + 64 * s.sxp.respIn.zeroExtend 64) (responseBytes r)
    ∧ goesOn (idleAgain { s with
        reg := { s.reg with
          sema := s.reg.sema ||| Param.semaLock
          isr := s.reg.isr ||| Param.isrRiscInt
          mbout := mb.set Param.respSlot (nextRespIn s.sxp) }
        sxp := { s.sxp with mboutMask := 0, respIn := nextRespIn s.sxp }
        env := { s.env with hostMem := m, oracle := { s.env.oracle with dma := q } } }) out

/-- `out` is the outcome of a fast posting from `s`: as `postsOutputs`, with the consumer posted in its slot (R432, R443). -/
def postsOutputsAndConsumer (s : State) (out : Result) : Prop :=
  ∃ mb : Vector Word 8,
    (∀ k : Fin 8, mb[k] = if k = Param.reqSlot then s.sxp.reqOut
      else if s.sxp.mboutMask.getLsbD k then s.sxp.stageOut[k] else s.reg.mbout[k])
    ∧ goesOn (idleAgain { s with
        reg := { s.reg with sema := s.reg.sema ||| Param.semaLock, isr := s.reg.isr ||| Param.isrRiscInt, mbout := mb }
        sxp := { s.sxp with mboutMask := 0 } }) out

/-! ### Internal faults -/

/-- `out` is the outcome of a step in which the internal fault `f` arises: it is recorded, the pass has ended, no further step
is taken, and `p` holds of the state it leaves (R447, R603; log 19). -/
def stopsWith (f : InternalFault) (p : State → Prop) (out : Result) : Prop :=
  ∃ t, out = .next t ∧ t.faulted = some f ∧ t.sxp.running = false ∧ step t = .fault (.internal f) ∧ p t

/-- Registers, host memory and the calls made are as in `s`. -/
def unchangedOutside (s t : State) : Prop := t.reg = s.reg ∧ t.env.hostMem = s.env.hostMem ∧ t.env.calls = s.env.calls

/-! ### Accesses -/

/-- The request of a bus event (R606); a store, a timer and a PCI reset are none. -/
def busRequest : HostEvent → Option Request
  | .read off => some (.regRead off)
  | .write off v => some (.regWrite off v)
  | .flashWrite d => some (.flashWrite d)
  | .flashRead => some .flashRead
  | .store _ _ | .fire _ | .pciReset => none

/-- The value of a register that stores what is written and does nothing else (R205, R206, R214, R218, R219, R231). -/
def storedValue (x : Regs) : Reg → Option Word
  | .conf0 => some x.conf0
  | .conf1 => some x.conf1
  | .flashAddr => some x.flashAddr
  | .riscPsr => some x.riscPsr
  | .riscPc => some x.riscPc
  | .riscMtr => some x.riscMtr
  | .gpioData => some x.gpioData
  | .gpioEnable => some x.gpioEnable
  | .dmaConf c => some x.dma[c].conf
  | .dmaControl c => some x.dma[c].control
  | .dmaAddr c j => some x.dma[c].addr[j]
  | .idLo | .idHi | .icr | .isr | .sema | .nvram | .flashData | .pioPort | .mbox _ | .hccr | .pinsDiff _
  | .dmaStatus _ | .dmaFifo _ => none

end Sys2Proof.Safety
end

