-- ==== Sys2Proof/Certificates/Slice0/Obligations.lean ====
section
/-! DEFINITION. The statements for the provers. Each is a `Prop` about the machine; OBLIGATIONS.json gives its rule. -/

open Sys2Proof Sys2Proof.Machine Sys2Proof.Safety

/-! ### Encoding and the step -/

/-- Decoding the encoding of a well-formed instruction gives the instruction, whatever the three numbers without a candidate
are that are well-formed: PIO_PORT's offset is even, no other register's and outside every bank window of the generation
(R121), and SXP_PINS_DIFF and READ_FOUR_RAM_WORDS name one thing each (log 37) (R120, R126, R132, R141, R161, R203). -/
def Obligations.DecodeEncodeRoundTrip : Prop :=
  ∀ (c : DecodeCtx) (i : Instr), c.nums.legal c.gen = true → i.wf c = true → decode c (encode c i) = .ok i

/-- What decoding gives is well-formed, and its encoding is the request it came from: no request has two meanings. -/
def Obligations.EncodeDecodeRoundTrip : Prop :=
  ∀ (c : DecodeCtx) (r : Request) (i : Instr), decode c r = .ok i → i.wf c = true ∧ encode c i = r

/-- Requests written out from the tables of spec/30_encoding.md, in its candidate numbers (PRESUMED: logs 1, 2, 4, 5). -/
def Obligations.SampleEncodingsDecode : Prop :=
  let n := tableNums
  decode ⟨.old, 0x0000, false, n⟩ (.regRead 0x000B) = .ok (.readOdd 0x000B)
    ∧ decode ⟨.old, 0x0000, false, n⟩ (.regRead 0x000A) = .ok .readIsr
    ∧ decode ⟨.old, 0x0000, false, n⟩ (.regWrite 0x0008 0x0006) = .ok (.writeIcr 0x0006)
    ∧ decode ⟨.old, 0x0000, false, n⟩ (.regWrite 0x0078 0x0001) = .ok (.writeMbox4 0x0001)
    ∧ decode ⟨.old, 0x0000, false, n⟩ (.regWrite 0x00C0 0x5000) = .ok (.hccrSetHostInt 0x000)
    ∧ decode ⟨.old, 0x0008, false, n⟩ (.regWrite 0x00C0 0x5000) = .ok (.accessUnmapped 0x00C0 (some 0x5000))
    ∧ decode ⟨.new, 0x0300, false, n⟩ (.regWrite 0x0080 0x0077) = .ok (.accessDmaConf0 (some 0x0077))
    ∧ decode ⟨.old, 0x0000, false, n⟩ (.mailbox 0x0004) = .ok .mboxWriteRamWord
    ∧ decode ⟨.old, 0x0000, false, n⟩ (.mailbox 0x007F) = .ok (.mboxInvalid 0x007F)
    ∧ decode ⟨.old, 0x0000, false, n⟩ (.flashWrite 0x90) = .ok .flashAutoselect
    ∧ decode ⟨.old, 0x0000, true, n⟩ (.flashWrite 0x90) = .ok (.flashProgramData 0x90)

/-- A step at a bus event, at a pending mailbox command or at a fetched descriptor is `exec` of the instruction decoded,
and the events that are no instruction do what their rules say (R606, R400, R605, R701). That the step refuses the fire of a
timer that is not armed, where R605 says only that it is not enabled, is the model's choice (log 17); a state between two
steps with a pass running, as the second and third clause have it, is the model's too (log 18). -/
def Obligations.StepRunsDecodedInstruction : Prop :=
  ∀ (s : State), s.faulted = none →
    (∀ (e : HostEvent) (rest : List HostEvent) (r : Request) (i : Instr),
      s.sxp.running = false → s.env.script = e :: rest → busRequest e = some r → decode (decodeCtx s) r = .ok i →
        step s = exec i { s with env := { s.env with script := rest } })
    ∧ (∀ (i : Instr), s.sxp.running = true → s.sxp.state = .idle → s.sxp.mboxCmdPending = true →
        decode (decodeCtx s) (.mailbox s.reg.mbin[0]) = .ok i → step s = exec i s)
    ∧ (∀ (o : Origin) (b : List Byte) (t : State) (i : Instr),
        s.sxp.running = true → s.sxp.state = .idle → s.sxp.mboxCmdPending = false →
        fetch s = .descriptor o b t → decode (decodeCtx t) (.iocb o b) = .ok i → step s = exec i t)
    ∧ (∀ (rest : List HostEvent) (a : Addr) (bytes : List Byte),
        s.sxp.running = false → s.env.script = .store a bytes :: rest →
        step s = .next { s with env := { s.env with script := rest, hostMem := writeBytes s.env.hostMem a bytes } })
    ∧ (∀ (rest : List HostEvent) (t : Timer),
        s.sxp.running = false → s.env.script = .fire t :: rest → timerArmed t s = false →
        step s = .refused (.timerNotArmed t))
    ∧ (∀ (rest : List HostEvent), s.sxp.running = false → s.env.script = .pciReset :: rest →
        step s = .next (controllerReset { s with env := { s.env with script := rest } }))

/-- The doorbell, rung while the engine is idle, runs the mailbox command that the opcode in `mbin[0]` decodes to: the loop
of R400 and the instruction's own meaning agree (R224, R401, R606). -/
def Obligations.DoorbellRunsMailboxCommand : Prop :=
  ∀ (s : State) (low : BitVec 12), s.sxp.state = .idle → s.sxp.running = false →
    exec (.hccrSetHostInt low) s =
      exec (mailboxInstr s.inst.nums s.reg.mbin[0]) { s with sxp := { s.sxp with mboxCmdPending := true, running := true } }

/-- A pass of an idle engine that finds a descriptor is `exec` of the descriptor's instruction: the loop of R400 and the
instruction's own meaning agree (R402, R405, R606). -/
def Obligations.EngineRunsFetchedDescriptor : Prop :=
  ∀ (s t : State) (o : Origin) (b : List Byte),
    s.sxp.state = .idle → s.sxp.running = true → s.sxp.mboxCmdPending = false → fetch s = .descriptor o b t →
      exec (iocbInstr o b) t = .next (resume s)

/-! ### Registers -/

/-- A read returns the register's value and changes nothing else (R98, R200, R202, R204 to R206, R208, R210, R211, R214,
R218 to R220, R230). -/
def Obligations.RegisterReads : Prop :=
  ∀ (s : State),
    let reads (i : Instr) (v : Word) : Prop := exec i s = .next { s with env := { s.env with readData := v } }
    (∀ off, reads (.readOdd off) 0xFFFF)
      ∧ (∀ off, reads (.accessUnmapped off none) Param.unmappedRead)
      ∧ reads .readIdLo Config.idLoValue ∧ reads .readIdHi Config.idHiValue
      ∧ reads .readConf0 s.reg.conf0 ∧ reads .readConf1 s.reg.conf1
      ∧ reads .readIcr s.reg.icr ∧ reads .readIsr s.reg.isr ∧ reads .readSema s.reg.sema
      ∧ reads .readFlashAddr s.reg.flashAddr
      ∧ reads .readMbox0 s.reg.mbout[0] ∧ reads .readMbox1 s.reg.mbout[1] ∧ reads .readMbox2 s.reg.mbout[2]
      ∧ reads .readMbox3 s.reg.mbout[3] ∧ reads .readMbox4 s.reg.mbout[4] ∧ reads .readMbox5 s.reg.mbout[5]
      ∧ reads .readMbox6 s.reg.mbout[6] ∧ reads .readMbox7 s.reg.mbout[7]
      ∧ reads .readRiscPsr s.reg.riscPsr ∧ reads .readRiscPc s.reg.riscPc ∧ reads .readRiscMtr s.reg.riscMtr
      ∧ reads .readGpioData s.reg.gpioData ∧ reads .readGpioEnable s.reg.gpioEnable
      ∧ reads .readHccr
          ((if s.sxp.mboxCmdPending then Param.hccrHostIntBit else 0)
            ||| (if s.reg.riscPaused then Param.hccrPausedBit else 0))
      ∧ ∀ b, reads (.readSxpPinsDiff b none) (Config.sxpPinsDiffValue b)

/-- A write to a read-only register, to no register or at an odd offset changes nothing (R201, R202, R204, R208, R217,
R230, R231). -/
def Obligations.IgnoredWrites : Prop :=
  ∀ (s : State) (off v : Word) (b : Fin 2),
    ∀ i ∈ [Instr.writeOdd off v, .accessUnmapped off (some v), .writeIdLo v, .writeIdHi v, .writeIsr v, .writePioPort v,
        .readSxpPinsDiff b (some v), .accessDmaStatus0 (some v), .accessDmaStatus1 (some v), .accessDmaFifo0 (some v),
        .accessDmaFifo1 (some v)],
      exec i s = .next s

/-- A write to a plain register stores the value and changes nothing else (R205, R206, R214, R218, R219). -/
def Obligations.StoredWrites : Prop :=
  ∀ (s : State) (v : Word),
    exec (.writeConf0 v) s = .next { s with reg := { s.reg with conf0 := v } }
      ∧ exec (.writeConf1 v) s = .next { s with reg := { s.reg with conf1 := v } }
      ∧ exec (.writeFlashAddr v) s = .next { s with reg := { s.reg with flashAddr := v } }
      ∧ exec (.writeRiscPsr v) s = .next { s with reg := { s.reg with riscPsr := v } }
      ∧ exec (.writeRiscPc v) s = .next { s with reg := { s.reg with riscPc := v } }
      ∧ exec (.writeRiscMtr v) s = .next { s with reg := { s.reg with riscMtr := v } }
      ∧ exec (.writeGpioData v) s = .next { s with reg := { s.reg with gpioData := v } }
      ∧ exec (.writeGpioEnable v) s = .next { s with reg := { s.reg with gpioEnable := v } }

/-- A write to ICR stores the enables, or, with the soft-reset bit, resets the controller and stores nothing: the values of
R700, with the flash unit, the recorded fault and the environment as they were (R207, R700, R702). A reset value without a
candidate is the card's own (R703). The interrupt line is `ISR_RISC_INT` under both enables, so a write to ICR raises or
lowers it with ISR unchanged, and a reset lowers it (R63, R124, R232, R611). -/
def Obligations.IcrWriteAndSoftReset : Prop :=
  (∀ r : Regs, irq r = true ↔
    r.isr &&& Param.isrRiscInt = Param.isrRiscInt ∧ r.icr &&& Param.icrEnAll = Param.icrEnAll
      ∧ r.icr &&& Param.icrEnRisc = Param.icrEnRisc)
  ∧ ∀ (s : State) (v : Word),
    (v &&& Param.icrSoftReset = 0 →
      ∃ t, exec (.writeIcr v) s = .next t ∧ t = { s with reg := { s.reg with icr := v &&& ~~~Param.icrSoftReset } }
        ∧ t.reg.isr = s.reg.isr
        ∧ (irq t.reg = true ↔
            s.reg.isr &&& Param.isrRiscInt = Param.isrRiscInt ∧ v &&& Param.icrEnAll = Param.icrEnAll
              ∧ v &&& Param.icrEnRisc = Param.icrEnRisc))
    ∧ (v &&& Param.icrSoftReset ≠ 0 →
      ∃ t, exec (.writeIcr v) s = .next t ∧ irq t.reg = false
        ∧ t.reg.conf0 = s.inst.resets.conf0 ∧ t.reg.conf1 = s.inst.resets.conf1 &&& ~~~bankSelMask s.inst.gen
        ∧ bankSel (decodeCtx t) = .risc
        ∧ t.reg.icr = 0 ∧ t.reg.isr = 0 ∧ t.reg.sema = 0 ∧ t.reg.flashAddr = 0
        ∧ (∀ k : Fin 8, t.reg.mbin[k] = 0 ∧ t.reg.mbout[k] = 0 ∧ t.sxp.stageOut[k] = 0) ∧ t.sxp.mboutMask = 0
        ∧ t.reg.riscPsr = 0 ∧ t.reg.riscPc = 0 ∧ t.reg.riscMtr = 0 ∧ t.reg.riscPaused = false
        ∧ t.reg.gpioData = 0 ∧ t.reg.gpioEnable = 0
        ∧ (∀ c : Fin 2, t.reg.dma[c].conf = 0 ∧ t.reg.dma[c].control = 0 ∧ ∀ j : Fin 4, t.reg.dma[c].addr[j] = 0)
        ∧ (∀ a : Word, fwRead t a = if a = Config.fwSentinelAddr then Config.fwSentinelValue else 0)
        ∧ t.sxp.state = .idle ∧ t.sxp.mboxCmdPending = false ∧ t.sxp.directReq = none ∧ t.sxp.timerArmed = false
        ∧ t.sxp.reqBase = 0 ∧ t.sxp.respBase = 0 ∧ t.sxp.reqLen = 0 ∧ t.sxp.respLen = 0
        ∧ t.sxp.reqInit = false ∧ t.sxp.respInit = false ∧ t.sxp.reqOut = 0 ∧ t.sxp.respIn = 0 ∧ t.sxp.abortQ = []
        ∧ t.sxp.pkt = none ∧ t.sxp.pktResp = none ∧ t.sxp.postKind = none ∧ t.sxp.postDelay = 0
        ∧ t.sxp.curPath = 0 ∧ t.sxp.curTarget = 0 ∧ t.sxp.curLun = 0 ∧ t.sxp.fastPost = false ∧ t.sxp.pioBuf = none
        ∧ (∀ (b : Fin 2) (k : Fin 128),
            targetParam t.sxp b k = { flags := s.inst.resets.targetFlags, syncPeriod := 0, syncOffset := 0,
                                      queue0 := 0, queue1 := 0 })
        ∧ (∀ (b : Fin 2) (k : BParam), busParam t.sxp b k = s.inst.resets.busParams[bparamIdx k])
        ∧ t.inst = s.inst ∧ t.flash = s.flash ∧ t.env = s.env ∧ t.faulted = s.faulted
        ∧ t.sxp.running = s.sxp.running)

/-- A write to SEMA that does not release a waiting engine is a masked store (R209). -/
def Obligations.SemaphoreWriteStores : Prop :=
  ∀ (s : State) (v sema : Word),
    sema = (if v ≠ 0 then v &&& Param.semaMask else s.reg.sema &&& Param.semaStatus) →
    (s.sxp.state ≠ .acquireMboxSemaphore ∨ sema &&& Param.semaLock = Param.semaLock) →
      exec (.writeSema v) s = .next { s with reg := { s.reg with sema := sema } }

/-- A write to SEMA that releases the lock while the engine waits for it posts what is staged: outputs under the lock, for a
direct request the response entry if its ring is initialised, for a fast posting the consumer, then the interrupt; and the pass
goes on in `Idle` with whatever work there is by then (R209, R442, R443, R614, R615). A response slot's address wraps (log 22),
and a ring without a length is computed with x mod 0 = x (log 33). -/
def Obligations.SemaphoreReleasePosts : Prop :=
  ∀ (s : State) (v sema : Word),
    sema = (if v ≠ 0 then v &&& Param.semaMask else s.reg.sema &&& Param.semaStatus) →
    sema &&& Param.semaLock = 0 → s.sxp.state = .acquireMboxSemaphore → s.sxp.running = false → s.sxp.timerArmed = false →
      let u : State := { s with reg := { s.reg with sema := sema } }
      (s.sxp.postKind = some .mboxResult ∨ s.sxp.postKind = some .mboxOnly
          ∨ s.sxp.postKind = some .mboxAndRing ∧ s.sxp.pktResp.isSome = true ∧ s.sxp.respInit = false →
        postsOutputs u (exec (.writeSema v) s))
      ∧ (s.sxp.postKind = some .fastPost → postsOutputsAndConsumer u (exec (.writeSema v) s))
      ∧ ∀ r q, s.sxp.postKind = some .mboxAndRing → s.sxp.pktResp = some r → s.sxp.respInit = true →
          memoriesWf s = true → s.env.oracle.dma = true :: q →
            postsOutputsAndEntry r q u (exec (.writeSema v) s)

/-- A write of a mailbox register stores it in `mbin`; the two cursor slots do no more while the engine is not idle
(R212). -/
def Obligations.MailboxWritesStore : Prop :=
  ∀ (s : State) (v : Word),
    let stores (i : Instr) (k : Fin 8) : Prop :=
      exec i s = .next { s with reg := { s.reg with mbin := s.reg.mbin.set k v } }
    stores (.writeMbox0 v) 0 ∧ stores (.writeMbox1 v) 1 ∧ stores (.writeMbox2 v) 2 ∧ stores (.writeMbox3 v) 3
      ∧ stores (.writeMbox6 v) 6 ∧ stores (.writeMbox7 v) 7
      ∧ (s.sxp.state ≠ .idle → stores (.writeMbox4 v) 4 ∧ stores (.writeMbox5 v) 5)

/-- A write of a cursor slot resumes an idle engine: it suspends for the first reason that holds, or dispatches the
descriptor at the head of the request ring (R212, R403, R405). -/
def Obligations.CursorWriteStartsRing : Prop :=
  ∀ (s u : State) (v : Word) (i : Instr),
    s.sxp.state = .idle → s.sxp.running = false → s.sxp.mboxCmdPending = false → s.sxp.directReq = none →
    (s.sxp.respInit = true → 0 < s.sxp.respLen.toNat) →
    (i = .writeMbox4 v ∧ u = { s with reg := { s.reg with mbin := s.reg.mbin.set 4 v } }
      ∨ i = .writeMbox5 v ∧ u = { s with reg := { s.reg with mbin := s.reg.mbin.set 5 v } }) →
    let rin := u.reg.mbin[4].toNat % s.sxp.reqLen.toNat
    let rout := u.reg.mbin[5].toNat % s.sxp.respLen.toNat
    let yields (why : Suspend) : Prop := exec i s = .next { u with env := { u.env with lastSuspend := some why } }
    if s.sxp.reqInit = false ∨ s.sxp.respInit = false then yields .nothingToDo
    else if rin = s.sxp.reqOut.toNat then yields .ringEmpty
    else if (s.sxp.respIn.toNat + 1) % s.sxp.respLen.toNat = rout then yields .respFull
    else
      ∀ q, s.sxp.reqOut ∉ s.sxp.abortQ → s.env.oracle.dma = true :: q →
        exec i s =
          exec (iocbInstr (.ring s.sxp.reqOut)
              (readBytes s.env.hostMem (s.sxp.reqBase + 64 * s.sxp.reqOut.zeroExtend 64) 64))
            { u with
              sxp := { u.sxp with running := true }
              env := { u.env with oracle := { u.env.oracle with dma := q } } }

/-- The HCCR commands: the pause bit, the interrupt and the pending command, and nothing else; the doorbell only leaves the
command pending while the engine is not idle (R222 to R229). -/
def Obligations.HccrCommands : Prop :=
  ∀ (s : State) (low : BitVec 12) (c : BitVec 4),
    exec (.hccrNop low) s = .next s
      ∧ exec (.hccrResetRisc low) s = .next { s with reg := { s.reg with riscPaused := false } }
      ∧ exec (.hccrPauseRisc low) s = .next { s with reg := { s.reg with riscPaused := true } }
      ∧ exec (.hccrReleaseRisc low) s = .next { s with reg := { s.reg with riscPaused := false } }
      ∧ exec (.hccrSingleStep low) s = .next s
      ∧ exec (.hccrClearHostInt low) s = .next { s with sxp := { s.sxp with mboxCmdPending := false } }
      ∧ exec (.hccrClearRiscInt low) s = .next { s with reg := { s.reg with isr := s.reg.isr &&& ~~~Param.isrRiscInt } }
      ∧ exec (.hccrUndefined c low) s = .next s
      ∧ (s.sxp.state ≠ .idle →
          exec (.hccrSetHostInt low) s = .next { s with sxp := { s.sxp with mboxCmdPending := true } })

/-- The DMA bank: three registers of each channel store what is written, status and FIFO read 0 (R231). -/
def Obligations.DmaRegisters : Prop :=
  ∀ (s : State) (v : Word),
    let reads (i : Instr) (x : Word) : Prop := exec i s = .next { s with env := { s.env with readData := x } }
    let writes (i : Instr) (c : Fin 2) (d : DmaChannel) : Prop :=
      exec i s = .next { s with reg := { s.reg with dma := s.reg.dma.set c d } }
    let d0 := s.reg.dma[0]
    let d1 := s.reg.dma[1]
    reads (.accessDmaConf0 none) d0.conf ∧ writes (.accessDmaConf0 (some v)) 0 { d0 with conf := v }
      ∧ reads (.accessDmaConf1 none) d1.conf ∧ writes (.accessDmaConf1 (some v)) 1 { d1 with conf := v }
      ∧ reads (.accessDmaControl0 none) d0.control ∧ writes (.accessDmaControl0 (some v)) 0 { d0 with control := v }
      ∧ reads (.accessDmaControl1 none) d1.control ∧ writes (.accessDmaControl1 (some v)) 1 { d1 with control := v }
      ∧ reads (.accessDmaAddr00 none) d0.addr[0] ∧ writes (.accessDmaAddr00 (some v)) 0 { d0 with addr := d0.addr.set 0 v }
      ∧ reads (.accessDmaAddr01 none) d0.addr[1] ∧ writes (.accessDmaAddr01 (some v)) 0 { d0 with addr := d0.addr.set 1 v }
      ∧ reads (.accessDmaAddr02 none) d0.addr[2] ∧ writes (.accessDmaAddr02 (some v)) 0 { d0 with addr := d0.addr.set 2 v }
      ∧ reads (.accessDmaAddr03 none) d0.addr[3] ∧ writes (.accessDmaAddr03 (some v)) 0 { d0 with addr := d0.addr.set 3 v }
      ∧ reads (.accessDmaAddr10 none) d1.addr[0] ∧ writes (.accessDmaAddr10 (some v)) 1 { d1 with addr := d1.addr.set 0 v }
      ∧ reads (.accessDmaAddr11 none) d1.addr[1] ∧ writes (.accessDmaAddr11 (some v)) 1 { d1 with addr := d1.addr.set 1 v }
      ∧ reads (.accessDmaAddr12 none) d1.addr[2] ∧ writes (.accessDmaAddr12 (some v)) 1 { d1 with addr := d1.addr.set 2 v }
      ∧ reads (.accessDmaAddr13 none) d1.addr[3] ∧ writes (.accessDmaAddr13 (some v)) 1 { d1 with addr := d1.addr.set 3 v }
      ∧ reads (.accessDmaStatus0 none) 0 ∧ reads (.accessDmaStatus1 none) 0
      ∧ reads (.accessDmaFifo0 none) 0 ∧ reads (.accessDmaFifo1 none) 0

/-- The NVRAM port passes each access to its oracle; the PIO port gives the buffer's words one by one and frees it with the
last (R213, R217, R62). -/
def Obligations.NvramAndPioPorts : Prop :=
  ∀ (s : State) (v : Word),
    exec (.writeNvram v) s = .next { s with env := { s.env with calls := .nvWrite v :: s.env.calls } }
      ∧ (∀ w q, s.env.oracle.nvram = w :: q →
          exec .readNvram s = .next { s with env := { s.env with
            calls := .nvRead :: s.env.calls, oracle := { s.env.oracle with nvram := q }, readData := w } })
      ∧ (s.sxp.pioBuf = none →
          exec .readPioPort s = .next { s with env := { s.env with readData := Param.pioEmptyRead } })
      ∧ ∀ (p : PioBuf) (h : p.idx < p.words.length), s.sxp.pioBuf = some p →
          exec .readPioPort s = .next { s with
            sxp := { s.sxp with pioBuf :=
              if p.idx + 1 = p.words.length then none else some { p with idx := p.idx + 1 } }
            env := { s.env with readData := p.words[p.idx] } }

/-- A banked access reaches the bank that `CONF1` selects at the access: the write of 0x5000 at 0xC0 is the doorbell with the
RISC bank selected, and nothing with any other (R203, R721; the offset and the bits are candidates, log 1; PIO_PORT, whose
offset is open, does not stand there). -/
def Obligations.BankSelectedAtAccess : Prop :=
  ∀ (s : State) (rest : List HostEvent),
    s.faulted = none → s.sxp.running = false → s.env.script = .write 0x00C0 0x5000 :: rest →
    s.inst.nums.pioPort ≠ 0x00C0 →
      if (s.inst.gen = .old ∧ s.reg.conf1.getLsbD 3 = false) ∨ (s.inst.gen = .new ∧ s.reg.conf1.extractLsb' 8 2 = 0) then
        step s = exec (.hccrSetHostInt 0) { s with env := { s.env with script := rest } }
      else step s = .next { s with env := { s.env with script := rest } }

/-- A register that only stores gives back, at its offset, what was last written there, and the write changes no other such
register and nothing outside the registers (R98, R101, R205, R206, R214, R218, R219, R231). -/
def Obligations.StoredRegisterReadsBack : Prop :=
  ∀ (s : State) (r : Reg) (v : Word) (rest : List HostEvent),
    s.faulted = none → s.sxp.running = false → (storedValue s.reg r).isSome = true →
    resolve (decodeCtx s) (regOffset s.inst.gen s.inst.nums r) = some r →
    s.env.script = .write (regOffset s.inst.gen s.inst.nums r) v :: .read (regOffset s.inst.gen s.inst.nums r) :: rest →
      ∃ t u, step s = .next t ∧ step t = .next u
        ∧ u = { s with reg := u.reg, env := { s.env with script := rest, readData := v } }
        ∧ storedValue u.reg r = some v
        ∧ ∀ r', r' ≠ r → storedValue u.reg r' = storedValue s.reg r'

/-! ### Mailbox commands -/

/-- The commands that do nothing, and the queue commands that only check their target, complete (R301, R311, R326 to R328,
R330, R332, R333). -/
def Obligations.CommandsWithoutEffect : Prop :=
  ∀ (s : State),
    (∀ i ∈ [Instr.mboxNoOp, .mboxExecFirmware, .mboxWakeUp, .mboxStopFirmware],
        exec i s = .next (resultStaged Param.complete [] s))
    ∧ (btOk s.inst s.reg.mbin[1] = true →
        (∀ i ∈ [Instr.mboxStopQueue, .mboxStartQueue, .mboxSingleStepQueue],
          exec i s = .next (resultStaged Param.complete [] s))
        ∧ exec .mboxGetDevQueueStatus s = .next (resultStaged Param.complete [(2, 0)] s))

/-- The firmware-memory words of the single-word and four-word commands: a write is read back, every other word is as
before, and a read posts the words (R304 to R306, R308). -/
def Obligations.FirmwareWordCommands : Prop :=
  ∀ (s : State), memoriesWf s = true →
    let a := s.reg.mbin[1]
    (∃ m : List (Nat × Word), exec .mboxWriteRamWord s = .next (resultStaged Param.complete [] { s with fw := m })
        ∧ ∀ x, fwRead { s with fw := m } x = if x = a then s.reg.mbin[2] else fwRead s x)
    ∧ exec .mboxReadRamWord s = .next (resultStaged Param.complete [(2, fwRead s a)] s)
    ∧ (a.toNat + 4 ≤ 0x10000 →
        exec .mboxReadFourRamWords s = .next (resultStaged Param.complete
          [(2, fwRead s a), (3, fwRead s (a + 1)), (4, fwRead s (a + 2)), (5, fwRead s (a + 3))] s)
        ∧ ∃ m : List (Nat × Word), exec .mboxWriteFourRamWords s = .next (resultStaged Param.complete [] { s with fw := m })
          ∧ ∀ x, fwRead { s with fw := m } x =
              if x = a then s.reg.mbin[2] else if x = a + 1 then s.reg.mbin[3]
              else if x = a + 2 then s.reg.mbin[4] else if x = a + 3 then s.reg.mbin[5] else fwRead s x)
    ∧ (0x10000 < a.toNat + 4 →
        exec .mboxReadFourRamWords s = .next (resultStaged Param.paramError [] s)
        ∧ exec .mboxWriteFourRamWords s = .next (resultStaged Param.paramError [] s))

/-- The block loads: in range, with a DMA call that succeeds, the words of host memory, little-endian, stand in firmware
memory from `mbin[1]` on, and every other word is as before; no words need no call (R302, R309, R137). -/
def Obligations.LoadRamCommands : Prop :=
  ∀ (s : State), memoriesWf s = true →
    let a := s.reg.mbin[1]
    let n := s.reg.mbin[4].toNat
    ∀ p ∈ [(Instr.mboxLoadRam, (s.reg.mbin[2] ++ s.reg.mbin[3]).zeroExtend 64),
        (Instr.mboxLoadRamA64, (s.reg.mbin[6] ++ s.reg.mbin[7] ++ s.reg.mbin[2] ++ s.reg.mbin[3] : Addr))],
      (n = 0 → exec p.1 s = .next (resultStaged Param.complete [] s))
      ∧ ∀ q, 0 < n → a.toNat + n ≤ 0x10000 → s.env.oracle.dma = true :: q →
          ∃ m : List (Nat × Word),
            exec p.1 s = .next (resultStaged Param.complete []
              { s with fw := m, env := { s.env with oracle := { s.env.oracle with dma := q } } })
            ∧ (∀ k, k < n → fwRead { s with fw := m } (a + BitVec.ofNat 16 k) =
                Memory.read hostDefault s.env.hostMem (p.2 + BitVec.ofNat 64 (2 * k + 1)).toNat
                  ++ Memory.read hostDefault s.env.hostMem (p.2 + BitVec.ofNat 64 (2 * k)).toNat)
            ∧ ∀ x : Word, (x.toNat < a.toNat ∨ a.toNat + n ≤ x.toNat) → fwRead { s with fw := m } x = fwRead s x

/-- The block dumps: in range, with a DMA call that succeeds, the words of firmware memory from `mbin[1]` on stand in host
memory, little-endian, and every other byte is as before; no words need no call (R303, R310, R137). -/
def Obligations.DumpRamCommands : Prop :=
  ∀ (s : State), memoriesWf s = true →
    let a := s.reg.mbin[1]
    let n := s.reg.mbin[4].toNat
    ∀ p ∈ [(Instr.mboxDumpRam, (s.reg.mbin[2] ++ s.reg.mbin[3]).zeroExtend 64),
        (Instr.mboxDumpRamA64, (s.reg.mbin[6] ++ s.reg.mbin[7] ++ s.reg.mbin[2] ++ s.reg.mbin[3] : Addr))],
      (n = 0 → exec p.1 s = .next (resultStaged Param.complete [] s))
      ∧ ∀ q, 0 < n → a.toNat + n ≤ 0x10000 → s.env.oracle.dma = true :: q →
          ∃ m : List Host.Cell,
            exec p.1 s = .next (resultStaged Param.complete []
              { s with env := { s.env with hostMem := m, oracle := { s.env.oracle with dma := q } } })
            ∧ storedAt s.env.hostMem m p.2 ((List.range (2 * n)).map fun j =>
                (fwRead s (a + BitVec.ofNat 16 (j / 2))).extractLsb' (8 * (j % 2)) 8)

/-- A block command out of range changes nothing and posts `PARAM_ERROR`; one whose DMA call fails writes nothing and posts
`HIE` (R381, R383). That a failed DMA write leaves host memory as it was is the model's reading of R90 (log 12). -/
def Obligations.BlockTransferFailures : Prop :=
  ∀ (s : State), ∀ i ∈ [Instr.mboxLoadRam, .mboxLoadRamA64, .mboxDumpRam, .mboxDumpRamA64],
    (0x10000 < s.reg.mbin[1].toNat + s.reg.mbin[4].toNat → exec i s = .next (resultStaged Param.paramError [] s))
    ∧ ∀ q, s.reg.mbin[1].toNat + s.reg.mbin[4].toNat ≤ 0x10000 → s.reg.mbin[4] ≠ 0 → s.env.oracle.dma = false :: q →
        exec i s = .next (resultStaged Param.hostInterfaceError []
          { s with env := { s.env with oracle := { s.env.oracle with dma := q } } })

/-- The checksum: the sum modulo 65536 of the words whose number stands in firmware memory is posted, and the status says
whether it is 0 (R307). -/
def Obligations.VerifyChecksumCommand : Prop :=
  ∀ (s : State),
    let a := s.reg.mbin[1]
    let len := (fwRead s (a + Param.checksumLenOffset)).toNat
    let sum := BitVec.ofNat 16 ((List.range len).map fun k => (fwRead s (a + BitVec.ofNat 16 k)).toNat).sum
    (a.toNat + len ≤ 0x10000 →
      exec .mboxVerifyChecksum s =
        .next (resultStaged (if sum = 0 then Param.complete else Param.testFailed) [(2, sum)] s))
    ∧ (0x10000 < a.toNat + len → exec .mboxVerifyChecksum s = .next (resultStaged Param.paramError [] s))

/-- The commands that only post words: the echo of the input mailboxes, the version, the status and the BIOS block address
(R312, R313, R331, R335). -/
def Obligations.InformationCommands : Prop :=
  ∀ (s : State),
    exec .mboxMailboxRegTest s = .next (resultStaged Param.complete
        [(1, s.reg.mbin[1]), (2, s.reg.mbin[2]), (3, s.reg.mbin[3]), (4, s.reg.mbin[4]), (5, s.reg.mbin[5]),
          (6, s.reg.mbin[6]), (7, s.reg.mbin[7])] s)
      ∧ exec .mboxAboutFirmware s = .next (resultStaged Param.complete
          [(1, Config.fwVerMajor), (2, Config.fwVerMinor), (3, Config.fwVerSub)] s)
      ∧ exec .mboxGetFirmwareStatus s = .next (resultStaged Param.complete [(1, 0), (2, Config.fwMaxCmds)] s)
      ∧ exec .mboxReturnBiosBlockAddr s = .next (resultStaged Param.complete [(1, Config.biosBlockAddr)] s)

/-- A request or response ring is initialised from its mailboxes, and a null address or a zero length changes nothing and
posts `PARAM_ERROR` (R314 to R317, R137). -/
def Obligations.QueueInitialisation : Prop :=
  ∀ (s : State),
    let len := s.reg.mbin[1]
    let h32 : Addr := (s.reg.mbin[2] ++ s.reg.mbin[3]).zeroExtend 64
    let h64 : Addr := s.reg.mbin[6] ++ s.reg.mbin[7] ++ s.reg.mbin[2] ++ s.reg.mbin[3]
    (∀ p ∈ [(Instr.mboxInitReqQueue, h32), (Instr.mboxInitReqQueueA64, h64)],
      exec p.1 s = .next (if p.2 = 0 ∨ len = 0 then resultStaged Param.paramError [] s
        else resultStaged Param.complete [(Param.reqSlot, 0)] { s with sxp := { s.sxp with
          reqBase := p.2, reqLen := len, reqOut := 0, reqInit := true, abortQ := [] } }))
    ∧ ∀ p ∈ [(Instr.mboxInitResQueue, h32), (Instr.mboxInitResQueueA64, h64)],
      exec p.1 s = .next (if p.2 = 0 ∨ len = 0 then resultStaged Param.paramError [] s
        else resultStaged Param.complete [(Param.respSlot, 0)] { s with sxp := { s.sxp with
          respBase := p.2, respLen := len, respIn := 0, respInit := true } })

/-- The commands that execute a descriptor hand it to the engine, which fetches it and runs its instruction in the same
pass, whatever the rings are; the 64-bit one checks the address length (R319, R334, R340, R402). -/
def Obligations.ExecuteIocbHandsOff : Prop :=
  ∀ (s : State) (q : List Bool), s.sxp.state = .idle → s.env.oracle.dma = true :: q →
    let h32 : Addr := (s.reg.mbin[2] ++ s.reg.mbin[3]).zeroExtend 64
    let h64 : Addr := s.reg.mbin[6] ++ s.reg.mbin[7] ++ s.reg.mbin[2] ++ s.reg.mbin[3]
    let handsOff (i : Instr) (o : Origin) (h : Addr) : Prop :=
      exec i s = exec (iocbInstr o (readBytes s.env.hostMem h 64)) { s with
          sxp := { s.sxp with mboxCmdPending := false, directReq := none, running := true }
          env := { s.env with oracle := { s.env.oracle with dma := q } } }
        ∧ ∃ t, exec i s = .next t ∧ (t.sxp.running = false)
    handsOff .mboxExecuteIocb (.direct h32) h32 ∧ handsOff .mboxExecuteBiosIocb (.bios h32) h32
      ∧ (if s.reg.mbin[1] = 64 then handsOff .mboxExecuteIocbA64 (.direct h64) h64
         else exec .mboxExecuteIocbA64 s = .next (resultStaged Param.paramError [] s))

/-- An abort command marks every pending slot that it should, in order: those not marked yet whose entry in host memory is a
command that matches, as far as the abort queue has room. It reads each pending slot once; a DMA error ends the scan, with what
was marked before it, and the status stays `COMPLETE` (R321 to R324, R329). The answers of the DMA interface stand in a queue
(log 12), and a slot's address wraps (log 22). -/
def Obligations.AbortMarksPendingSlot : Prop :=
  ∀ (s : State) (dq : List Bool),
    let w := s.reg.mbin[1]
    let len := s.sxp.reqLen.toNat
    let pending := (s.reg.mbin[4].toNat % len + len - s.sxp.reqOut.toNat) % len
    let entry (k : Word) : List Byte := readBytes s.env.hostMem (s.sxp.reqBase + 64 * k.zeroExtend 64) 64
    let command (b : List Byte) : Bool := byteAt b 0 == Param.etCmd || byteAt b 0 == Param.etCmd64
    let onTarget (b : List Byte) : Bool :=
      (byteAt b 9).extractLsb' 7 1 == w.extractLsb' 15 1 && (byteAt b 9).extractLsb' 0 7 == w.extractLsb' 8 7
    let onDevice (b : List Byte) : Bool := onTarget b && byteAt b 8 == w.extractLsb' 0 8
    let isHandle (b : List Byte) : Bool := le32 b 4 == s.reg.mbin[2] ++ s.reg.mbin[3]
    btOk s.inst w = true → s.sxp.reqInit = true → s.sxp.respInit = true → ringsWf s.sxp = true →
      ∀ p ∈ [(Instr.mboxAbort, fun b => onDevice b && isHandle b), (.mboxAbortDevice, onDevice),
          (.mboxAbortTarget, onTarget), (.mboxAbortQueue, onDevice)],
        let marks (n : Nat) : Prop :=
          let found := ((List.range n).map fun j => BitVec.ofNat 16 ((s.sxp.reqOut.toNat + j) % len)).filter fun k =>
            !s.sxp.abortQ.contains k && command (entry k) && p.2 (entry k)
          exec p.1 s = .next (resultStaged Param.complete [] { s with
            sxp := { s.sxp with abortQ := s.sxp.abortQ ++ found.take (Config.abortQLen - s.sxp.abortQ.length) }
            env := { s.env with oracle := { s.env.oracle with dma := dq } } })
        (s.env.oracle.dma = List.replicate pending true ++ dq → marks pending)
        ∧ ∀ n, n < pending → s.env.oracle.dma = List.replicate n true ++ false :: dq → marks n

/-- An abort command posts `COMPLETE` and changes nothing but the abort queue and the DMA answers that it used, at most one for
each pending slot; it keeps every slot that was in the queue, adds none twice, and adds only pending slots whose entry in
host memory is a command on the target (R321 to R324, R329). The answers of the DMA interface stand in a queue (log 12), and a
slot's address wraps (log 22). -/
def Obligations.AbortMarksOnlyMatching : Prop :=
  ∀ (s : State) (i : Instr), i ∈ [Instr.mboxAbort, .mboxAbortDevice, .mboxAbortTarget, .mboxAbortQueue] →
    btOk s.inst s.reg.mbin[1] = true → ringsWf s.sxp = true →
      let len := s.sxp.reqLen.toNat
      let pending := (s.reg.mbin[4].toNat % len + len - s.sxp.reqOut.toNat) % len
      ∃ (calls : Nat) (added : List Word),
        exec i s = .next (resultStaged Param.complete [] { s with
          sxp := { s.sxp with abortQ := s.sxp.abortQ ++ added }
          env := { s.env with oracle := dmaAsked calls s.env.oracle } })
        ∧ (s.sxp.reqInit = true ∧ s.sxp.respInit = true → calls ≤ pending)
        ∧ (s.sxp.reqInit = false ∨ s.sxp.respInit = false → added = [] ∧ calls = 0)
        ∧ (s.sxp.abortQ.length ≤ Config.abortQLen → (s.sxp.abortQ ++ added).length ≤ Config.abortQLen)
        ∧ added.Nodup
        ∧ ∀ k ∈ added, k ∉ s.sxp.abortQ ∧ (∃ j, j < pending ∧ k.toNat = (s.sxp.reqOut.toNat + j) % len) ∧
            let b := readBytes s.env.hostMem (s.sxp.reqBase + 64 * k.zeroExtend 64) 64
            (byteAt b 0 = Param.etCmd ∨ byteAt b 0 = Param.etCmd64)
              ∧ (byteAt b 9).extractLsb' 7 1 = s.reg.mbin[1].extractLsb' 15 1
              ∧ (byteAt b 9).extractLsb' 0 7 = s.reg.mbin[1].extractLsb' 8 7
              ∧ (i ≠ .mboxAbortTarget → byteAt b 8 = s.reg.mbin[1].extractLsb' 0 8)
              ∧ (i = .mboxAbort → le32 b 4 = s.reg.mbin[2] ++ s.reg.mbin[3])

/-- A reset of bus 0 resets exactly the targets that are there, in the order of their ids; of another bus none; a bus that
is not there is an error (R325). -/
def Obligations.BusResetCommand : Prop :=
  ∀ (s : State),
    (∀ ps rest, s.reg.mbin[2] = 0 → ps.length = s.inst.numTargets → s.env.oracle.present = ps ++ rest →
      exec .mboxBusReset s = .next (resultStaged Param.complete [] { s with env := { s.env with
        oracle := { s.env.oracle with present := rest }
        calls := (((List.range s.inst.numTargets).filter fun t => ps.getD t false).map OracleCall.targetReset).reverse ++ s.env.calls } }))
    ∧ (s.reg.mbin[2] = 1 → s.inst.buses = .two → exec .mboxBusReset s = .next (resultStaged Param.complete [] s))
    ∧ (numBuses s.inst.buses ≤ s.reg.mbin[2].toNat → exec .mboxBusReset s = .next (resultStaged Param.paramError [] s))

/-- The GET commands of the bus parameters post the stored words, of one bus or of two (R350 to R357, R360, R372). -/
def Obligations.BusParameterGets : Prop :=
  ∀ (s : State),
    let get (b : Fin 2) (k : BParam) : Word := busParam s.sxp b k
    let two : Bool := s.inst.buses == .two
    (∀ p ∈ [(Instr.mboxGetInitScsiId, BParam.initId), (.mboxGetSelectTimeout, .selTimeout),
        (.mboxGetTagAgeLimit, .tagAge), (.mboxGetActNegState, .actNeg), (.mboxGetAsyncDataSetupTime, .asyncSetup),
        (.mboxGetResetDelayParams, .resetDelay)],
      exec p.1 s = .next (resultStaged Param.complete ((1, get 0 p.2) :: if two then [(2, get 1 p.2)] else []) s))
    ∧ exec .mboxGetRetryCount s = .next (resultStaged Param.complete
        ((1, get 0 .retryCount) :: (2, get 0 .retryDelay) ::
          if two then [(6, get 1 .retryCount), (7, get 1 .retryDelay)] else []) s)
    ∧ exec .mboxGetClockRate s = .next (resultStaged Param.complete [(1, get 0 .clockRate)] s)
    ∧ exec .mboxGetPciParams s = .next (resultStaged Param.complete [(1, get 0 .pciParams)] s)

/-- The SET commands of the bus parameters change the named words of each bus and no other parameter, and nothing else but
the command's result (R361 to R368, R371, R372). -/
def Obligations.BusParameterSets : Prop :=
  ∀ (s : State),
    let two : Bool := s.inst.buses == .two
    let sets (i : Instr) (val : Fin 2 → BParam → Option Word) : Prop :=
      ∃ buses, exec i s = .next (resultStaged Param.complete [] { s with sxp := { s.sxp with buses := buses } })
        ∧ (∀ b k, busParam { s.sxp with buses := buses } b k = (val b k).getD (busParam s.sxp b k))
        ∧ ∀ b t, targetParam { s.sxp with buses := buses } b t = targetParam s.sxp b t
    (∀ p ∈ [(Instr.mboxSetInitScsiId, BParam.initId), (.mboxSetSelectTimeout, .selTimeout),
        (.mboxSetTagAgeLimit, .tagAge), (.mboxSetActNegState, .actNeg), (.mboxSetAsyncDataSetupTime, .asyncSetup),
        (.mboxSetResetDelayParams, .resetDelay)],
      sets p.1 fun b k => if k ≠ p.2 then none else if b = 0 then some s.reg.mbin[1]
        else if two then some s.reg.mbin[2] else none)
    ∧ sets .mboxSetRetryCount (fun b k =>
        if b = 1 ∧ !two then none
        else if k = .retryCount then some (if b = 0 then s.reg.mbin[1] else s.reg.mbin[6])
        else if k = .retryDelay then some (if b = 0 then s.reg.mbin[2] else s.reg.mbin[7]) else none)
    ∧ sets .mboxSetClockRate (fun b k => if b = 0 ∧ k = .clockRate then some s.reg.mbin[1] else none)
    ∧ sets .mboxSetPciParams (fun b k => if b = 0 ∧ k = .pciParams then some s.reg.mbin[1] else none)

/-- The target and device-queue parameters: a GET posts the stored words of the target, a SET replaces those of the target
and of no other (R358, R359, R369, R370). -/
def Obligations.TargetParameterCommands : Prop :=
  ∀ (s : State), btOk s.inst s.reg.mbin[1] = true →
    let b : Fin 2 := Fin.ofNat 2 (s.reg.mbin[1].extractLsb' 15 1).toNat
    let t : Fin 128 := Fin.ofNat 128 (s.reg.mbin[1].extractLsb' 8 7).toNat
    let old := targetParam s.sxp b t
    let sets (i : Instr) (new : TargetParam) : Prop :=
      ∃ buses, exec i s = .next (resultStaged Param.complete [] { s with sxp := { s.sxp with buses := buses } })
        ∧ (∀ b' t', targetParam { s.sxp with buses := buses } b' t' =
            if b' = b ∧ t' = t then new else targetParam s.sxp b' t')
        ∧ ∀ b' k, busParam { s.sxp with buses := buses } b' k = busParam s.sxp b' k
    exec .mboxGetTargetParams s = .next (resultStaged Param.complete
        [(1, s.reg.mbin[1]), (2, old.flags), (3, old.syncOffset ++ old.syncPeriod)] s)
      ∧ exec .mboxGetDevQueueParams s = .next (resultStaged Param.complete [(2, old.queue0), (3, old.queue1)] s)
      ∧ sets .mboxSetTargetParams { old with
          flags := s.reg.mbin[2]
          syncPeriod := s.reg.mbin[3].extractLsb' 0 8
          syncOffset := s.reg.mbin[3].extractLsb' 8 8 }
      ∧ sets .mboxSetDevQueueParams { old with queue0 := s.reg.mbin[2], queue1 := s.reg.mbin[3] }

/-- What a SET command stored, the GET command posts later, whatever the mailboxes hold by then: every bus parameter of each
bus, the clock rate and the PCI parameters of the chip, and, exactly for every valid target and every two words, a target's
parameters (R369, R372). -/
def Obligations.ParameterRoundTrips : Prop :=
  ∀ (s t u : State), u.inst = s.inst → u.sxp.buses = t.sxp.buses →
    let two : Bool := s.inst.buses == .two
    let m := s.reg.mbin
    let givesBack (set get : Instr) (outs : List (Fin 8 × Word)) : Prop :=
      exec set s = .next t → exec get u = .next (resultStaged Param.complete outs u)
    (∀ p ∈ [(Instr.mboxSetInitScsiId, Instr.mboxGetInitScsiId), (.mboxSetSelectTimeout, .mboxGetSelectTimeout),
        (.mboxSetTagAgeLimit, .mboxGetTagAgeLimit), (.mboxSetActNegState, .mboxGetActNegState),
        (.mboxSetAsyncDataSetupTime, .mboxGetAsyncDataSetupTime), (.mboxSetResetDelayParams, .mboxGetResetDelayParams)],
      givesBack p.1 p.2 ((1, m[1]) :: if two then [(2, m[2])] else []))
    ∧ givesBack .mboxSetRetryCount .mboxGetRetryCount ((1, m[1]) :: (2, m[2]) :: if two then [(6, m[6]), (7, m[7])] else [])
    ∧ givesBack .mboxSetClockRate .mboxGetClockRate [(1, m[1])]
    ∧ givesBack .mboxSetPciParams .mboxGetPciParams [(1, m[1])]
    ∧ (btOk s.inst m[1] = true → u.reg.mbin[1] = m[1] →
        givesBack .mboxSetTargetParams .mboxGetTargetParams [(1, m[1]), (2, m[2]), (3, m[3])]
        ∧ givesBack .mboxSetDevQueueParams .mboxGetDevQueueParams [(2, m[2]), (3, m[3])])

/-- The firmware features hold the fast-posting bit alone, and an unknown opcode posts `INVALID` (R342, R343, R380). -/
def Obligations.FeatureAndUnknownCommands : Prop :=
  ∀ (s : State) (op : Word),
    exec .mboxSetFirmwareFeatures s = .next (resultStaged Param.complete []
        { s with sxp := { s.sxp with fastPost := s.reg.mbin[1].getLsbD Param.fwfFastPostBit } })
      ∧ exec .mboxGetFirmwareFeatures s = .next (resultStaged Param.complete
          [(1, if s.sxp.fastPost then 1 <<< Param.fwfFastPostBit else 0)] s)
      ∧ exec (.mboxInvalid op) s = .next (resultStaged Param.invalid [] s)

/-- A command that checks its target changes nothing and posts `PARAM_ERROR` when the bus or the target is out of range
(R384). -/
def Obligations.TargetCheckFailure : Prop :=
  ∀ (s : State),
    (numBuses s.inst.buses ≤ (s.reg.mbin[1].extractLsb' 15 1).toNat ∨ s.inst.numTargets ≤ (s.reg.mbin[1].extractLsb' 8 7).toNat) →
      ∀ i ∈ [Instr.mboxAbort, .mboxAbortDevice, .mboxAbortTarget, .mboxAbortQueue, .mboxStopQueue, .mboxStartQueue,
          .mboxSingleStepQueue, .mboxGetDevQueueStatus, .mboxGetTargetParams, .mboxGetDevQueueParams,
          .mboxSetTargetParams, .mboxSetDevQueueParams],
        exec i s = .next (resultStaged Param.paramError [] s)

/-! ### Descriptors -/

/-- A descriptor that is no command and no marker is a bad packet: an incomplete response, marked bad (R402, R405, R411,
R430). -/
def Obligations.BadPacketCompletion : Prop :=
  ∀ (s : State) (o : Origin) (b : List Byte) (i : Instr),
    i ∈ [Instr.iocbCont o b, .iocbResp o b, .iocbCont64 o b, .iocbUnknown o b] → i.wf (decodeCtx s) = true →
      exec i s = .next (completionWaits ⟨b, o, false⟩
        { freshResponse b with completionStatus := Param.csIncomplete, hflags := 1 <<< Config.hfBadBit.val }
        Config.mboxOverhead s)

/-- A marker reaches no target: its response says command overrun and aborted (R412, R430). -/
def Obligations.MarkerCompletion : Prop :=
  ∀ (s : State) (o : Origin) (b : List Byte), (Instr.iocbMarker o b).wf (decodeCtx s) = true →
    exec (.iocbMarker o b) s = .next (completionWaits ⟨b, o, false⟩
      { freshResponse b with completionStatus := Param.csCommandOverrun, statusFlags := Param.stfAborted }
      Config.mboxOverhead s)

/-- A command to another path, to a target id out of range or to an absent target times out, with no call to the target
(R413, R415, R430). -/
def Obligations.SelectionTimeoutCompletion : Prop :=
  ∀ (s : State) (o : Origin) (b : List Byte) (i : Instr),
    i ∈ [Instr.iocbCmd o b, .iocbCmd64 o b] → i.wf (decodeCtx s) = true →
      let ends (t : State) : Prop := exec i s = .next (completionWaits ⟨b, o, false⟩
        { freshResponse b with
          completionStatus := Param.csIncomplete
          statusFlags := Param.stfTimeout
          stateFlags := Param.seltoStateFlags
          time := Config.respTime 0 none } Config.selTimeoutDelay (deviceSelected b t))
      (reachable s.inst b = false → ends s)
      ∧ ∀ q, reachable s.inst b = true → s.env.oracle.present = false :: q →
          ends { s with env := { s.env with oracle := { s.env.oracle with present := q } } }

/-- A command that its target answers by status alone, of the ring or direct, with segments or without: the call gives the
target the bytes from byte 20 on, at most 12; the response carries byte 2 as its sequence, bytes 4 to 7 as its handle and the
status, and is complete if the segments hold no byte, else an underrun by all of them, modulo 2^32 (log 29); a ring's consumer
moves on by the entry count, at least 1 (R406, R413, R420, R423, R430, R431). Sense data is not wanted: the status is no check
condition (see AutomaticSense). -/
def Obligations.NonDataCommandCompletion : Prop :=
  ∀ (s : State) (o : Origin) (b : List Byte) (i : Instr) (st : Byte) (rate n : Nat) (segs : List Segment)
    (pq dq : List Bool) (rq : List CommandReply),
    i ∈ [Instr.iocbCmd o b, .iocbCmd64 o b] → i.wf (decodeCtx s) = true →
    reachable s.inst b = true → segmentsFound o b s n segs → st ≠ Param.checkCondition →
    s.env.oracle.present = true :: pq → s.env.oracle.reply = ⟨.statusOnly, st, rate⟩ :: rq →
    s.env.oracle.dma = List.replicate n true ++ dq →
      let host := (segs.map (·.count)).sum
      ∃ t, exec i s = .next t
        ∧ t = completionWaits ⟨b, o, false⟩
          { sequence := byteAt b 2
            hflags := 0
            handle := le32 b 4
            scsiStatus := st.zeroExtend 16
            completionStatus := if host = 0 then Param.csComplete else Param.csDataUnderrun
            stateFlags := Param.sfGotBus ||| Param.sfGotTarget ||| Param.sfSentCdb ||| Param.sfGotStatus
              ||| Param.sfXferComplete
            statusFlags := 0
            time := Config.respTime 0 (some rate)
            senseLen := 0
            residual := BitVec.ofNat 32 host
            sense := [] }
          (Config.elapsed 0 rate + Config.mboxOverhead)
          (deviceSelected b { s with env := { s.env with
            oracle := { s.env.oracle with present := pq, reply := rq, dma := dq }
            calls := .command ((byteAt b 9).extractLsb' 0 7) (byteAt b 8)
                ((List.range (min (le16 b 10).toNat 12)).map fun k => byteAt b (20 + k)) :: s.env.calls } })
        ∧ ∀ slot, o = .ring slot →
            t.sxp.reqOut =
              BitVec.ofNat 16 ((s.sxp.reqOut.toNat + max 1 (byteAt b 1).toNat) % s.sxp.reqLen.toNat)

/-- A command that moves data in over its segments, of the descriptor itself and of continuation slots: the bytes stand in host
memory segment by segment, no more than the counts hold, every other byte is as before, and the response compares the lengths
(R420, R423, R425, R147, R430). The DMA interface is called once for each slot read and each segment touched (log 21). An
address wraps at the end of its space (log 22), and the residual is taken modulo 2^32 (log 29). -/
def Obligations.DataInTransfer : Prop :=
  ∀ (s : State) (o : Origin) (b : List Byte) (i : Instr) (bytes : List Byte) (st : Byte) (rate n : Nat) (segs : List Segment)
    (pq dq : List Bool) (rq : List CommandReply),
    memoriesWf s = true → i ∈ [Instr.iocbCmd o b, .iocbCmd64 o b] → i.wf (decodeCtx s) = true →
    reachable s.inst b = true → segmentsFound o b s n segs → st ≠ Param.checkCondition →
    s.env.oracle.present = true :: pq → s.env.oracle.reply = ⟨.dataIn bytes, st, rate⟩ :: rq →
      let host := segmentBytes segs
      let moved := min bytes.length host
      s.env.oracle.dma = List.replicate (n + piecesUsed segs moved) true ++ dq →
      ∃ m, exec i s = .next (completionWaits ⟨b, o, false⟩ (commandResponse b st rate bytes.length host)
          (Config.elapsed moved rate + Config.mboxOverhead)
          (deviceSelected b { s with env := { s.env with
            hostMem := m
            oracle := { s.env.oracle with present := pq, reply := rq, dma := dq }
            calls := commandCall b :: s.env.calls } }))
        ∧ scatteredOver s.env.hostMem m segs (bytes.take moved)

/-- A command that moves data out over its segments, of the descriptor itself and of continuation slots: the target gets the
bytes of host memory segment by segment, no more than it asks for, and host memory is as before (R420, R423, R425, R430). The
DMA interface is called once for each slot read and each segment touched (log 21). An address wraps at the end of its space
(log 22), and the residual is taken modulo 2^32 (log 29). -/
def Obligations.DataOutTransfer : Prop :=
  ∀ (s : State) (o : Origin) (b : List Byte) (i : Instr) (want : Nat) (st : Byte) (rate n : Nat) (segs : List Segment)
    (pq dq : List Bool) (rq : List CommandReply),
    i ∈ [Instr.iocbCmd o b, .iocbCmd64 o b] → i.wf (decodeCtx s) = true →
    reachable s.inst b = true → segmentsFound o b s n segs → st ≠ Param.checkCondition →
    s.env.oracle.present = true :: pq → s.env.oracle.reply = ⟨.dataOut want, st, rate⟩ :: rq →
      let host := segmentBytes segs
      let moved := min want host
      s.env.oracle.dma = List.replicate (n + piecesUsed segs moved) true ++ dq →
      exec i s = .next (completionWaits ⟨b, o, false⟩ (commandResponse b st rate want host)
        (Config.elapsed moved rate + Config.mboxOverhead)
        (deviceSelected b { s with env := { s.env with
          oracle := { s.env.oracle with present := pq, reply := rq, dma := dq }
          calls := .dataOut ((byteAt b 9).extractLsb' 0 7)
              ((List.range moved).map fun k => Memory.read hostDefault s.env.hostMem (byteAddr segs k).toNat)
            :: commandCall b :: s.env.calls } }))

/-- A check condition of a ring or direct command fetches sense data, at most 32 bytes, exactly if the descriptor does not
disable it and the target's parameters enable it (a BIOS request never does: BiosPioStaging); in every phase, with segments or without, after the data has moved as it does for any other status
(R424, R420, R425). Sense data that is too long is cut and the residual is taken modulo 2^32 (log 29), a segment of no bytes
makes no call (log 21), and an address wraps (log 22). -/
def Obligations.AutomaticSense : Prop :=
  ∀ (s : State) (o : Origin) (b : List Byte) (i : Instr) (phase : Phase) (rate n : Nat) (segs : List Segment)
    (pq dq : List Bool) (rq : List CommandReply) (sense : List Byte) (sq : List (List Byte)),
    memoriesWf s = true → i ∈ [Instr.iocbCmd o b, .iocbCmd64 o b] → i.wf (decodeCtx s) = true →
    reachable s.inst b = true → segmentsFound o b s n segs → s.env.oracle.sense = sense :: sq →
    s.env.oracle.present = true :: pq → s.env.oracle.reply = ⟨phase, Param.checkCondition, rate⟩ :: rq →
      let target := (byteAt b 9).extractLsb' 0 7
      let wanted : Bool := le16 b 12 &&& Param.rfDisarq == 0 &&
        (targetParam s.sxp 0 (Fin.ofNat 128 target.toNat)).flags.getLsbD Config.tparmArqBit
      let host := segmentBytes segs
      let ends (dev : Nat) (m : List Host.Cell) (handed : List OracleCall) : Prop :=
        let r := commandResponse b Param.checkCondition rate dev host
        exec i s = .next (completionWaits ⟨b, o, false⟩ (if wanted then withSense sense r else r)
          (Config.elapsed (min dev host) rate + Config.mboxOverhead)
          (deviceSelected b { s with env := { s.env with
            hostMem := m
            oracle := { s.env.oracle with present := pq, reply := rq, dma := dq, sense := if wanted then sq else sense :: sq }
            calls := (if wanted then [.requestSense target (byteAt b 8)] else [])
              ++ handed ++ commandCall b :: s.env.calls } }))
      (phase = .statusOnly → s.env.oracle.dma = List.replicate n true ++ dq → ends 0 s.env.hostMem [])
      ∧ (∀ bytes, phase = .dataIn bytes →
          let moved := min bytes.length host
          s.env.oracle.dma = List.replicate (n + piecesUsed segs moved) true ++ dq →
            ∃ m, ends bytes.length m [] ∧ scatteredOver s.env.hostMem m segs (bytes.take moved))
      ∧ ∀ want, phase = .dataOut want →
          let moved := min want host
          s.env.oracle.dma = List.replicate (n + piecesUsed segs moved) true ++ dq →
            ends want s.env.hostMem [.dataOut target
              ((List.range moved).map fun k => Memory.read hostDefault s.env.hostMem (byteAddr segs k).toNat)]

/-- A BIOS request, by the target's answer. Data in: with the PIO flag set it is staged for the data port and host memory is as
it was; with the flag clear it is stored at the first segment. Data out: the target gets the bytes of the first segment,
whatever the flag is. Status alone: nothing moves. A request without segments has a length of 0; no sense data is fetched
(R426, R433, R430). A transfer of no bytes makes no call (log 21), an address wraps (log 22), and the residual is taken modulo
2^32 (log 29). -/
def Obligations.BiosPioStaging : Prop :=
  ∀ (s : State) (a : Addr) (b : List Byte) (i : Instr) (phase : Phase) (st : Byte) (rate : Nat) (pq : List Bool)
    (rq : List CommandReply) (g : Segment),
    (i = .iocbCmd (.bios a) b ∧ g = segment32 b 32 ∨ i = .iocbCmd64 (.bios a) b ∧ g = segment64 b 40) →
    i.wf (decodeCtx s) = true → reachable s.inst b = true →
    s.env.oracle.present = true :: pq → s.env.oracle.reply = ⟨phase, st, rate⟩ :: rq →
      let host := if le16 b 18 = 0 then 0 else g.count
      let pio := (fwRead s Config.biosPioFlagAddr).getLsbD Config.biosPioFlagBit
      let asked (o : Oracle) : Env := { s.env with
        oracle := { o with present := pq, reply := rq }
        calls := commandCall b :: s.env.calls }
      let ends (len : Nat) (t : State) : Prop := exec i s = .next (completionWaits ⟨b, .bios a, false⟩
        (lengthsCompared b st len host) (Config.elapsed (min len host) rate + Config.mboxOverhead) (deviceSelected b t))
      (∀ bytes, phase = .dataIn bytes → pio = true →
          let moved := min bytes.length host
          ends bytes.length { s with
            sxp := { s.sxp with pioBuf := if moved = 0 then none else some ⟨wordsOf (bytes.take moved), 0⟩ }
            env := asked s.env.oracle })
      ∧ (∀ bytes dq, phase = .dataIn bytes → pio = false → memoriesWf s = true →
          let moved := min bytes.length host
          s.env.oracle.dma = List.replicate (min moved 1) true ++ dq →
          ∃ m, ends bytes.length { s with env := { asked { s.env.oracle with dma := dq } with hostMem := m } }
            ∧ storedAt s.env.hostMem m g.base (bytes.take moved))
      ∧ (∀ want dq, phase = .dataOut want →
          let moved := min want host
          s.env.oracle.dma = List.replicate (min moved 1) true ++ dq →
          let t := asked { s.env.oracle with dma := dq }
          ends want { s with env := { t with
            calls := .dataOut ((byteAt b 9).extractLsb' 0 7) (readBytes s.env.hostMem g.base moved) :: t.calls } })
      ∧ (phase = .statusOnly → ends 0 { s with env := asked s.env.oracle })

/-- The internal faults. A recorded fault stops every step (R603). A DMA error is recorded wherever the engine asks: the fetch
of a direct request (R402), of the head slot, aborted or not (R404, R405), of a continuation (R425), an access to a segment
(R420, R426), and the writing of a response (R441); so is a slot of no continuation type where one is due, in whatever slot of
the walk (R425). Each leaves what it had not yet done undone (R447). The model's readings: that the reads of an aborted slot and
of a continuation, which R447 does not name, fault as its others do (log 20); which call of the DMA interface is a segment's, an
access of no bytes making none (log 21); that addresses wrap (log 22); that a failed DMA write stores none of its bytes (log
12); and that the fault's own step answers a next state (log 19). -/
def Obligations.EngineFaultsStop : Prop :=
  -- a recorded fault
  (∀ (s : State) (f : InternalFault), s.faulted = some f → step s = .fault (.internal f))
  -- the fetch of a direct request
  ∧ (∀ (s : State) (i : Instr) (q : List Bool), s.sxp.state = .idle → s.env.oracle.dma = false :: q →
      (i = .mboxExecuteIocb ∨ i = .mboxExecuteBiosIocb ∨ i = .mboxExecuteIocbA64 ∧ s.reg.mbin[1] = 64) →
        stopsWith .dmaFailure (unchangedOutside s) (exec i s))
  -- the fetch of the head slot, which leaves the abort queue if it stands there
  ∧ (∀ (s u : State) (v : Word) (i : Instr) (q : List Bool),
      s.sxp.state = .idle → s.sxp.running = false → s.sxp.mboxCmdPending = false → s.sxp.directReq = none →
      (i = .writeMbox4 v ∧ u = { s with reg := { s.reg with mbin := s.reg.mbin.set 4 v } }
        ∨ i = .writeMbox5 v ∧ u = { s with reg := { s.reg with mbin := s.reg.mbin.set 5 v } }) →
      ringBlocked u = none → s.env.oracle.dma = false :: q →
        stopsWith .dmaFailure (fun t => unchangedOutside u t ∧ t.sxp.reqOut = s.sxp.reqOut
          ∧ t.sxp.abortQ = s.sxp.abortQ.erase s.sxp.reqOut) (exec i s))
  -- a continuation slot of a ring command, the `j`-th that its walk reads
  ∧ (∀ (s : State) (slot : Word) (b : List Byte) (i : Instr) (j : Nat) (pq dq : List Bool),
      i ∈ [Instr.iocbCmd (.ring slot) b, .iocbCmd64 (.ring slot) b] → i.wf (decodeCtx s) = true →
      reachable s.inst b = true → walkReaches slot b s j → s.env.oracle.present = true :: pq →
        (s.env.oracle.dma = List.replicate (j + 1) true ++ dq → isContinuation (continuationBytes slot j s) = false →
          stopsWith .badContinuation (unchangedOutside s) (exec i s))
        ∧ (s.env.oracle.dma = List.replicate j true ++ false :: dq →
          stopsWith .dmaFailure (unchangedOutside s) (exec i s)))
  -- a segment of a ring or direct command, the `k`-th that its transfer touches
  ∧ (∀ (s : State) (o : Origin) (b : List Byte) (i : Instr) (phase : Phase) (st : Byte) (rate n k : Nat)
        (segs : List Segment) (pq dq : List Bool) (rq : List CommandReply),
      i ∈ [Instr.iocbCmd o b, .iocbCmd64 o b] → i.wf (decodeCtx s) = true →
      reachable s.inst b = true → segmentsFound o b s n segs →
      s.env.oracle.present = true :: pq → s.env.oracle.reply = ⟨phase, st, rate⟩ :: rq →
      s.env.oracle.dma = List.replicate (n + k) true ++ false :: dq →
        (∀ bytes, phase = .dataIn bytes → memoriesWf s = true →
          k < piecesUsed segs (min bytes.length (segmentBytes segs)) →
            stopsWith .dmaFailure (fun t => t.reg = s.reg ∧ t.env.calls = commandCall b :: s.env.calls
              ∧ scatteredOver s.env.hostMem t.env.hostMem segs (bytes.take (bytesInPieces segs k))) (exec i s))
        ∧ (∀ want, phase = .dataOut want → k < piecesUsed segs (min want (segmentBytes segs)) →
            stopsWith .dmaFailure (fun t => t.reg = s.reg ∧ t.env.calls = commandCall b :: s.env.calls
              ∧ t.env.hostMem = s.env.hostMem) (exec i s)))
  -- the one segment of a BIOS request
  ∧ (∀ (s : State) (a : Addr) (b : List Byte) (i : Instr) (phase : Phase) (st : Byte) (rate : Nat) (pq dq : List Bool)
        (rq : List CommandReply) (g : Segment),
      (i = .iocbCmd (.bios a) b ∧ g = segment32 b 32 ∨ i = .iocbCmd64 (.bios a) b ∧ g = segment64 b 40) →
      i.wf (decodeCtx s) = true → reachable s.inst b = true → le16 b 18 ≠ 0 → 0 < g.count →
      s.env.oracle.present = true :: pq → s.env.oracle.reply = ⟨phase, st, rate⟩ :: rq → s.env.oracle.dma = false :: dq →
      ((∃ bytes, phase = .dataIn bytes ∧ bytes ≠ []
          ∧ (fwRead s Config.biosPioFlagAddr).getLsbD Config.biosPioFlagBit = false)
        ∨ ∃ want, phase = .dataOut want ∧ 0 < want) →
        stopsWith .dmaFailure (fun t => t.reg = s.reg ∧ t.env.calls = commandCall b :: s.env.calls
          ∧ t.env.hostMem = s.env.hostMem) (exec i s))
  -- the response of a ring, a silent or a direct completion
  ∧ ∀ (s : State) (r : Response) (q : List Bool), s.faulted = none → s.sxp.running = false → s.sxp.pktResp = some r →
      s.env.oracle.dma = false :: q →
        let unwritten (t : State) : Prop :=
          t.env.hostMem = s.env.hostMem ∧ t.sxp.respIn = s.sxp.respIn ∧ t.reg.isr = s.reg.isr
        let postedAlone (t : State) : Prop := unwritten t ∧ outputsPosted s t.reg.mbout
          ∧ t.reg.sema &&& Param.semaLock = Param.semaLock
        (∀ rest, s.env.script = .fire .sxp :: rest → s.sxp.timerArmed = true →
          (s.sxp.state = .waitTimer ∨ s.sxp.state = .setRiscInterrupt ∧ s.sxp.postKind = some .ring →
            stopsWith .dmaFailure (fun t => unwritten t ∧ t.reg = s.reg) (step s))
          ∧ (s.sxp.state = .mboxWaitTimer → s.sxp.postKind = some .mboxAndRing → s.sxp.respInit = true →
            s.reg.sema &&& Param.semaLock = 0 → stopsWith .dmaFailure postedAlone (step s)))
        ∧ ∀ v, (if v ≠ 0 then v &&& Param.semaMask else s.reg.sema &&& Param.semaStatus) &&& Param.semaLock = 0 →
            s.sxp.timerArmed = false → s.sxp.state = .acquireMboxSemaphore → s.sxp.postKind = some .mboxAndRing →
            s.sxp.respInit = true → stopsWith .dmaFailure postedAlone (exec (.writeSema v) s)

/-! ### Postings -/

/-- The timer of a mailbox result or of a direct or BIOS completion: with the semaphore held the engine waits and posts nothing;
with it free the outputs that the mask names are copied, the lock is taken, a direct request's response entry is written if
its ring is initialised (whatever the host's consumer is), the interrupt is raised and the pass goes on in `Idle` with whatever
work there is by then (R438, R442, R443, R448, R614, R615). A response slot's address wraps (log 22), and a ring without a
length is computed with x mod 0 = x (log 33). -/
def Obligations.MailboxResultPosting : Prop :=
  ∀ (s : State) (rest : List HostEvent),
    s.faulted = none → s.sxp.running = false → s.env.script = .fire .sxp :: rest → s.sxp.timerArmed = true →
    s.sxp.state = .mboxWaitTimer →
      let u : State := { s with env := { s.env with script := rest } }
      (s.reg.sema &&& Param.semaLock = Param.semaLock →
        step s = .next { s with
          sxp := { s.sxp with timerArmed := false, state := .acquireMboxSemaphore }
          env := { s.env with script := rest, lastSuspend := some .waitSemaphore } })
      ∧ (s.reg.sema &&& Param.semaLock = 0 →
          (s.sxp.postKind = some .mboxResult ∨ s.sxp.postKind = some .mboxOnly
              ∨ s.sxp.postKind = some .mboxAndRing ∧ s.sxp.pktResp.isSome = true ∧ s.sxp.respInit = false →
            postsOutputs u (step s))
          ∧ ∀ r q, s.sxp.postKind = some .mboxAndRing → s.sxp.pktResp = some r → s.sxp.respInit = true →
              memoriesWf s = true → s.env.oracle.dma = true :: q → postsOutputsAndEntry r q u (step s))

/-- The staged words and the mask say what a result posts: its status in mailbox 0, each output in its mailbox, and no other
mailbox (R300, R401). -/
def Obligations.StagedResultPostsAnswer : Prop :=
  ∀ (status : Word) (outs : List (Fin 8 × Word)) (s : State), (outs.map Prod.fst).Nodup → (0 : Fin 8) ∉ outs.map Prod.fst →
    let x := (resultStaged status outs s).sxp
    x.stageOut[0] = status ∧ (∀ e ∈ outs, x.stageOut[e.1] = e.2)
      ∧ ∀ k : Fin 8, x.mboutMask.getLsbD k = (k == 0 || (outs.map Prod.fst).contains k)

/-- The timer of a ring completion: the response entry is written to its slot, the producer and the consumer are published
and the interrupt is raised; then the pass goes on in `Idle`, with the next entry of the ring or whatever other work there is;
the entry's fields stand at the offsets of R151 (R441, R443, R103, R151, R614, R615). The slot's address wraps (log 22), and a
ring without a length is computed with x mod 0 = x (log 33). -/
def Obligations.RingCompletionPosting : Prop :=
  ∀ (s : State) (rest : List HostEvent) (r : Response) (q : List Bool),
    memoriesWf s = true → s.faulted = none → s.sxp.running = false → s.env.script = .fire .sxp :: rest → s.sxp.timerArmed = true →
    s.sxp.state = .setRiscInterrupt → s.sxp.postKind = some .ring → s.sxp.pktResp = some r →
    s.env.oracle.dma = true :: q →
      let next : Word := BitVec.ofNat 16 ((s.sxp.respIn.toNat + 1) % s.sxp.respLen.toNat)
      (∃ m, goesOn (idleAgain { s with
            reg := { s.reg with
              isr := s.reg.isr ||| Param.isrRiscInt
              mbout := (s.reg.mbout.set Param.respSlot next).set Param.reqSlot s.sxp.reqOut }
            sxp := { s.sxp with respIn := next, mboutMask := 0 }
            env := { s.env with script := rest, hostMem := m, oracle := { s.env.oracle with dma := q } } }) (step s)
          ∧ storedAt s.env.hostMem m (s.sxp.respBase + 64 * s.sxp.respIn.zeroExtend 64) (responseBytes r))
      ∧ ∀ e, e = responseBytes r →
          e.length = 64 ∧ byteAt e 0 = Param.etResp ∧ byteAt e 1 = 1 ∧ byteAt e 2 = r.sequence ∧ byteAt e 3 = r.hflags
            ∧ le32 e 4 = r.handle ∧ le16 e 8 = r.scsiStatus ∧ le16 e 10 = r.completionStatus ∧ le16 e 12 = r.stateFlags
            ∧ le16 e 14 = r.statusFlags ∧ le16 e 16 = r.time ∧ le16 e 18 = r.senseLen ∧ le32 e 20 = r.residual
            ∧ (∀ j, j < 8 → byteAt e (24 + j) = 0) ∧ ∀ j, j < 32 → byteAt e (32 + j) = r.sense.getD j 0

/-- The abort of a slot: dispatch, by the write of either cursor, skips it, with no call to a target, and consumes it; its
response is written when the timer fires, with no interrupt, and the pass goes on in `Idle` with whatever work there is by then
(R404, R212, R430, R440, R614). A slot's address wraps (log 22), and a ring without a length is computed with x mod 0 = x
(log 33). -/
def Obligations.AbortedSlotSkipped : Prop :=
  (∀ (s u : State) (v : Word) (i : Instr) (q : List Bool),
    s.sxp.state = .idle → s.sxp.running = false → s.sxp.mboxCmdPending = false → s.sxp.directReq = none →
    (i = .writeMbox4 v ∧ u = { s with reg := { s.reg with mbin := s.reg.mbin.set 4 v } }
      ∨ i = .writeMbox5 v ∧ u = { s with reg := { s.reg with mbin := s.reg.mbin.set 5 v } }) →
    ringBlocked u = none → s.sxp.reqOut ∈ s.sxp.abortQ → s.env.oracle.dma = true :: q →
      let b := readBytes s.env.hostMem (s.sxp.reqBase + 64 * s.sxp.reqOut.zeroExtend 64) 64
      exec i s = .next (slotSkipped s.sxp.reqOut b
        { u with
          sxp := { u.sxp with abortQ := u.sxp.abortQ.erase s.sxp.reqOut }
          env := { u.env with oracle := { u.env.oracle with dma := q } } }))
  ∧ ∀ (s : State) (rest : List HostEvent) (r : Response) (q : List Bool),
    memoriesWf s = true → s.faulted = none → s.sxp.running = false → s.env.script = .fire .sxp :: rest → s.sxp.timerArmed = true →
    s.sxp.state = .waitTimer → s.sxp.pktResp = some r → s.env.oracle.dma = true :: q →
      let next : Word := BitVec.ofNat 16 ((s.sxp.respIn.toNat + 1) % s.sxp.respLen.toNat)
      ∃ m, goesOn (idleAgain { s with
            reg := { s.reg with mbout := (s.reg.mbout.set Param.respSlot next).set Param.reqSlot s.sxp.reqOut }
            sxp := { s.sxp with respIn := next }
            env := { s.env with script := rest, hostMem := m, oracle := { s.env.oracle with dma := q } } }) (step s)
          ∧ storedAt s.env.hostMem m (s.sxp.respBase + 64 * s.sxp.respIn.zeroExtend 64) (responseBytes r)

/-- A fast posting: the staged outputs and the consumer are posted under the semaphore, with the interrupt and without a
response entry, and the pass goes on in `Idle` with whatever work there is by then (R432, R442, R443, R614). Where that is a
ring slot its address wraps (log 22), and a ring without a length is computed with x mod 0 = x (log 33). -/
def Obligations.FastPosting : Prop :=
  ∀ (s : State) (rest : List HostEvent),
    s.faulted = none → s.sxp.running = false → s.env.script = .fire .sxp :: rest → s.sxp.timerArmed = true →
    s.sxp.state = .mboxWaitTimer → s.sxp.postKind = some .fastPost → s.reg.sema &&& Param.semaLock = 0 →
      postsOutputsAndConsumer { s with env := { s.env with script := rest } } (step s)

/-! ### Flash -/

/-- The unlock and command sequence, from read-array or autoselect mode: what each write cycle does at each cycle count; a
cycle out of place starts the sequence over (R502 to R507, R515, R501). -/
def Obligations.FlashCommandSequence : Prop :=
  ∀ (s : State), (s.flash.mode = .readArray ∨ s.flash.mode = .autoselect) →
    let f := s.flash
    let v := s.inst.flashVariant
    let z := s.inst.flashSize
    let at1 := s.reg.flashAddr &&& cmdAddrMask v = unlock1 v
    let at2 := s.reg.flashAddr &&& cmdAddrMask v = unlock2 v
    let block := flashBlock z (flashAddrOf s)
    let goes (i : Instr) (f' : Flash) : Prop := exec i s = .next { s with flash := f' }
    goes .flashUnlockAa { f with cycle :=
        if f.cycle = 0 ∧ at1 then 1 else if f.cycle = 3 ∧ at1 then 4 else 0 }
      ∧ goes .flashUnlock55 { f with cycle := if f.cycle = 1 ∧ at2 then 2 else if f.cycle = 4 ∧ at2 then 5 else 0 }
      ∧ goes .flashAutoselect (if f.cycle = 2 ∧ at1 then { f with mode := .autoselect, cycle := 0 } else { f with cycle := 0 })
      ∧ goes .flashProgram (if f.cycle = 2 ∧ at1 then { f with mode := .programSetup, cycle := 0 } else { f with cycle := 0 })
      ∧ goes .flashEraseSetup { f with cycle := if f.cycle = 2 ∧ at1 then 3 else 0 }
      ∧ goes .flashBlockErase (if f.cycle = 5 then
          { f with
            mode := .eraseAccept, cycle := 0, acceptArmed := true
            pending := Vector.ofFn fun k => decide (k = block) }
          else { f with cycle := 0 })
      ∧ (∃ array, goes .flashChipErase (if f.cycle = 5 ∧ at1 then
            { f with mode := .chipErasing, cycle := 0, doneArmed := true, array := array } else { f with cycle := 0 })
          ∧ blocksErased z (fun k => !f.prot[k]) f.array array)
      ∧ goes .flashReadArray { f with
          mode := .readArray, cycle := 0, status := 0, acceptArmed := false, doneArmed := false
          pending := .replicate 8 false }
      ∧ ∀ d, (∀ e ∈ flashCommands, e.1 ≠ d) → goes (.flashProgramData d) { f with cycle := 0 }

/-- Programming a byte: ignored in a protected block, an error where it would set a bit, else the byte is in the array and
no other byte changes (R512, R500). -/
def Obligations.FlashProgramByte : Prop :=
  ∀ (s : State) (d : Byte), memoriesWf s = true → s.flash.mode = .programSetup →
    let f := s.flash
    let at' := flashIndex s.inst.flashSize (flashAddrOf s)
    let goes (f' : Flash) : Prop := exec (.flashProgramData d) s = .next { s with flash := f' }
    if f.prot[flashBlock s.inst.flashSize (flashAddrOf s)] then
      goes { f with mode := .programming, cycle := 0, doneArmed := true }
    else if d &&& ~~~(Memory.read flashDefault f.array at') ≠ 0 then
      goes { f with mode := .programError, cycle := 0, status := f.status ||| Param.fstError }
    else
      ∃ array, goes { f with mode := .programming, cycle := 0, doneArmed := true, array := array }
        ∧ ∀ a, Memory.read flashDefault array a = if a = at' then d else Memory.read flashDefault f.array a

/-- The busy modes: what they ignore, the erase window, and the two timers' ends (R501, R508, R509, R513, R514, R516,
R517). -/
def Obligations.FlashBusyModes : Prop :=
  ∀ (s : State),
    let f := s.flash
    let z := s.inst.flashSize
    let goes (i : Instr) (f' : Flash) : Prop := exec i s = .next { s with flash := f' }
    let others : List Instr := [.flashUnlockAa, .flashUnlock55, .flashAutoselect, .flashProgram, .flashEraseSetup,
      .flashChipErase]
    let array : Flash := { f with
      mode := .readArray, cycle := 0, status := 0, acceptArmed := false, doneArmed := false, pending := .replicate 8 false }
    let ignores (rest : List Instr) : Prop :=
      (∀ i ∈ rest ++ others, goes i f) ∧ ∀ d, (∀ e ∈ flashCommands, e.1 ≠ d) → goes (.flashProgramData d) f
    (f.mode = .programming → ignores [.flashBlockErase, .flashReadArray])
      ∧ (f.mode = .erasing ∨ f.mode = .chipErasing ∨ f.mode = .programError →
          goes .flashReadArray array ∧ ignores [.flashBlockErase])
      ∧ (f.mode = .eraseAccept →
          goes .flashReadArray array
            ∧ goes .flashBlockErase { f with
                acceptArmed := true, pending := f.pending.set (flashBlock z (flashAddrOf s)) true }
            ∧ ignores [])
      ∧ (∀ rest, s.faulted = none → s.sxp.running = false → s.env.script = .fire .eraseAccept :: rest →
          f.acceptArmed = true →
          ∃ m, step s = .next { s with
              flash := { f with
                mode := .erasing, cycle := 0, acceptArmed := false, doneArmed := true
                status := f.status ||| Param.fstTimeout, pending := .replicate 8 false, array := m }
              env := { s.env with script := rest } }
            ∧ blocksErased z (fun k => f.pending[k] && !f.prot[k]) f.array m)
      ∧ (∀ rest, s.faulted = none → s.sxp.running = false → s.env.script = .fire .flashDone :: rest →
          f.doneArmed = true →
          step s = .next { s with
            flash := { f with mode := .readArray, cycle := 0, status := 0, doneArmed := false }
            env := { s.env with script := rest } })

/-- A flash read, by mode: array data, autoselect data, or the status with its toggle bit flipped; and the FLASH_DATA port
is a read or a write cycle of the unit (R163, R215, R216, R510, R511). -/
def Obligations.FlashReadsAndDataPort : Prop :=
  ∀ (s : State) (v : Word),
    let f := s.flash
    let z := s.inst.flashSize
    let fa := flashAddrOf s
    let low := flashIndex z fa % 4
    (∀ i ∈ [Instr.flashRead, .readFlashData],
      exec i s = .next (
        match f.mode with
        | .readArray | .programSetup =>
          { s with env := { s.env with readData := (Memory.read flashDefault f.array (flashIndex z fa)).zeroExtend 16 } }
        | .autoselect =>
          { s with env := { s.env with readData :=
            if low = 0 then (manufId s.inst.flashVariant).zeroExtend 16
            else if low = 1 then (modelId s.inst.flashVariant).zeroExtend 16
            else if low = 2 then (if f.prot[flashBlock z fa] then 1 else 0) else 0 } }
        | .programming | .programError | .eraseAccept | .erasing | .chipErasing =>
          { s with
            flash := { f with status := f.status ^^^ Param.fstToggle }
            env := { s.env with readData := (f.status ^^^ Param.fstToggle).zeroExtend 16 } }))
    ∧ exec (.writeFlashData v) s = exec (flashInstr (f.mode == .programSetup) (v.extractLsb' 0 8)) s
    ∧ ∃ f', exec (.writeFlashData v) s = .next { s with flash := f' }

/-! ### Invariants -/

/-- Every step keeps the three memories in canonical form and inside their address spaces. -/
def Obligations.MemoriesStayCanonical : Prop :=
  ∀ (s t : State), memoriesWf s = true → step s = .next t → memoriesWf t = true

/-- Every step keeps the flash unit's invariants: mode and cycle, the timers exactly in their modes, and the status bits as
each mode has them (R518, R519, R67, R68). -/
def Obligations.FlashInvariantKept : Prop :=
  ∀ (s t : State), flashWf s.flash = true → step s = .next t → flashWf t.flash = true

/-- Every step keeps the engine's invariant, ends its pass, and leaves the engine waiting for an event that can come: no work
is left behind (R449, R450, R400, R617). -/
def Obligations.EngineInvariantKept : Prop :=
  ∀ (s t : State), engineInv s = true → step s = .next t → engineInv t = true ∧ atRest t = true

/-- Every step keeps the register fields that always read 0 (R35, R36, R207, R209), and never changes the instance
(R30). -/
def Obligations.RegisterFieldsKept : Prop :=
  ∀ (s t : State), registersWf s.reg = true → step s = .next t → registersWf t.reg = true ∧ t.inst = s.inst

/-- Power-on meets every invariant, for every card whose flash image is in canonical form (R701). -/
def Obligations.PowerOnMeetsInvariants : Prop :=
  ∀ (inst : Inst) (prot : Vector Bool 8) (image : List Host.Cell),
    Memory.wf flashDefault image = true → cellsBelow (flashBytes inst.flashSize) image = true →
      let s := State.powerOn inst prot image
      memoriesWf s = true ∧ registersWf s.reg = true ∧ flashWf s.flash = true ∧ engineInv s = true ∧ atRest s = true
        ∧ noFault s = true
end

