-- ==== Sys2Proof/Laws/Memory.lean ====
section
/-! SUPPORT. The laws of the memories: a write is read back and leaves every other cell alone, the canonical form and the
bound of the address space are kept, and what stretches of bytes and words hold. -/

namespace Sys2Proof.Laws

open Sys2Proof.Machine Sys2Proof.Safety

section cells

variable {w : Nat} {d : BitVec w}

theorem memory_wf_cons {k : Nat} {u : BitVec w} {m : List (Nat × BitVec w)} :
    Memory.wf d ((k, u) :: m) = true ↔ u ≠ d ∧ (∀ e ∈ m, k < e.1) ∧ Memory.wf d m = true := by
  simp [Memory.wf, and_assoc]

/-- A cell below every listed one reads the unlisted value. -/
theorem memory_read_of_lt {m : List (Nat × BitVec w)} {x : Nat} (h : ∀ e ∈ m, x < e.1) : Memory.read d m x = d := by
  induction m with
  | nil => rfl
  | cons e m ih =>
    have := h e (by simp)
    rw [Memory.read, if_neg (by omega), ih fun e he => h e (by simp [he])]

/-- A cell of a written memory is at the address written or was listed before. -/
theorem memory_mem_write {m : List (Nat × BitVec w)} {a : Nat} {v : BitVec w} :
    ∀ e ∈ Memory.write d m a v, e.1 = a ∨ e ∈ m := by
  induction m with
  | nil => intro e he; by_cases hv : v = d <;> simp_all [Memory.write]
  | cons p m ih =>
    obtain ⟨k, u⟩ := p
    intro e he
    rw [Memory.write] at he
    split at he
    · split at he
      · exact .inr he
      · rcases List.mem_cons.1 he with rfl | he
        · exact .inl rfl
        · exact .inr he
    · split at he
      · split at he
        · exact .inr (List.mem_cons_of_mem _ he)
        · rcases List.mem_cons.1 he with rfl | he
          · exact .inl rfl
          · exact .inr (List.mem_cons_of_mem _ he)
      · rcases List.mem_cons.1 he with rfl | he
        · exact .inr (by simp)
        · rcases ih e he with h | h
          · exact .inl h
          · exact .inr (List.mem_cons_of_mem _ h)

/-- A write keeps the canonical form. -/
theorem memory_wf_write {m : List (Nat × BitVec w)} (h : Memory.wf d m = true) (a : Nat) (v : BitVec w) :
    Memory.wf d (Memory.write d m a v) = true := by
  induction m with
  | nil => by_cases hv : v = d <;> simp [Memory.write, Memory.wf, hv]
  | cons p m ih =>
    obtain ⟨k, u⟩ := p
    obtain ⟨hu, hk, hm⟩ := memory_wf_cons.1 h
    rw [Memory.write]
    split
    case isTrue hlt =>
      split
      · exact h
      · next hv =>
        refine memory_wf_cons.2 ⟨hv, fun e he => ?_, h⟩
        rcases List.mem_cons.1 he with rfl | he
        · exact hlt
        · have := hk e he; omega
    case isFalse hlt =>
      split
      case isTrue heq =>
        split
        · exact hm
        · next hv => exact memory_wf_cons.2 ⟨hv, fun e he => by have := hk e he; omega, hm⟩
      case isFalse hne =>
        refine memory_wf_cons.2 ⟨hu, fun e he => ?_, ih hm⟩
        rcases memory_mem_write e he with h | h
        · omega
        · exact hk _ h

/-- In canonical form a write is read back, and every other cell reads as before. -/
theorem memory_read_write {m : List (Nat × BitVec w)} (h : Memory.wf d m = true) (a : Nat) (v : BitVec w) (x : Nat) :
    Memory.read d (Memory.write d m a v) x = if x = a then v else Memory.read d m x := by
  induction m with
  | nil => by_cases hv : v = d <;> simp [Memory.write, Memory.read, hv]
  | cons p m ih =>
    obtain ⟨k, u⟩ := p
    obtain ⟨hu, hk, hm⟩ := memory_wf_cons.1 h
    rw [Memory.write]
    split
    case isTrue hlt =>
      split
      · next hv =>
        split
        · next hx =>
          subst hx hv
          exact memory_read_of_lt fun e he => by
            rcases List.mem_cons.1 he with rfl | he
            · exact hlt
            · have := hk e he; omega
        · rfl
      · rfl
    case isFalse hlt =>
      split
      case isTrue heq =>
        subst heq
        split
        · next hv =>
          split
          · next hx => subst hx hv; exact memory_read_of_lt hk
          · next hx => rw [Memory.read, if_neg hx]
        · by_cases hx : x = a <;> simp [Memory.read, hx]
      case isFalse hne =>
        rw [Memory.read, ih hm, Memory.read]
        by_cases hx : x = a
        · subst hx; simp [hne]
        · simp [hx]

/-- Dropping cells keeps the canonical form. -/
theorem memory_wf_filter {m : List (Nat × BitVec w)} (h : Memory.wf d m = true) (f : Nat × BitVec w → Bool) :
    Memory.wf d (m.filter f) = true := by
  induction m with
  | nil => rfl
  | cons p m ih =>
    obtain ⟨k, u⟩ := p
    obtain ⟨hu, hk, hm⟩ := memory_wf_cons.1 h
    rw [List.filter_cons]
    split
    · exact memory_wf_cons.2 ⟨hu, fun e he => hk e (List.mem_filter.1 he).1, ih hm⟩
    · exact ih hm

/-- Dropping the cells at some addresses makes them read the unlisted value, and changes no other cell. -/
theorem memory_read_filter (m : List (Nat × BitVec w)) (gone : Nat → Bool) (x : Nat) :
    Memory.read d (m.filter fun e => !gone e.1) x = if gone x then d else Memory.read d m x := by
  induction m with
  | nil => simp [Memory.read]
  | cons p m ih =>
    obtain ⟨k, u⟩ := p
    rw [List.filter_cons]
    by_cases hx : x = k
    · subst hx
      cases hg : gone x <;> simp [Memory.read, hg, ih]
    · split <;> simp [Memory.read, hx, ih]

/-- A write inside the address space keeps every listed cell in it. -/
theorem cellsBelow_write {n : Nat} {m : List (Nat × BitVec w)} (h : cellsBelow n m = true) {a : Nat} (ha : a < n)
    (v : BitVec w) : cellsBelow n (Memory.write d m a v) = true := by
  simp only [cellsBelow, List.all_eq_true, decide_eq_true_eq] at *
  intro e he
  rcases memory_mem_write e he with h' | h'
  · omega
  · exact h _ h'

/-- Dropping cells keeps the others in the address space. -/
theorem cellsBelow_filter {n : Nat} {m : List (Nat × BitVec w)} (h : cellsBelow n m = true) (f : Nat × BitVec w → Bool) :
    cellsBelow n (m.filter f) = true := by
  simp only [cellsBelow, List.all_eq_true, decide_eq_true_eq] at *
  exact fun e he => h e (List.mem_filter.1 he).1

end cells

/-! ### Bytes of host memory -/

@[simp] theorem length_readBytes (m : List Host.Cell) (a : Addr) (n : Nat) : (readBytes m a n).length = n := by
  induction n generalizing a with
  | zero => rfl
  | succ n ih => simp [readBytes, ih]

/-- Byte `j` of a stretch of host memory. -/
theorem getD_readBytes (m : List Host.Cell) (a : Addr) {n j : Nat} (h : j < n) :
    (readBytes m a n).getD j 0 = Memory.read hostDefault m (a + BitVec.ofNat 64 j).toNat := by
  induction n generalizing a j with
  | zero => omega
  | succ n ih =>
    cases j with
    | zero => simp [readBytes]
    | succ j =>
      rw [readBytes, List.getD_cons_succ, ih _ (by omega)]
      congr 2
      rw [BitVec.add_assoc]
      congr 1
      apply BitVec.eq_of_toNat_eq
      simp [BitVec.toNat_add, Nat.add_comm]

/-- A store keeps the canonical form and the address space of host memory. -/
theorem hostMem_writeBytes {m : List Host.Cell} (h : Memory.wf hostDefault m = true) (hb : cellsBelow (2 ^ 64) m = true)
    (a : Addr) (bytes : List Byte) :
    Memory.wf hostDefault (writeBytes m a bytes) = true ∧ cellsBelow (2 ^ 64) (writeBytes m a bytes) = true := by
  induction bytes generalizing m a with
  | nil => exact ⟨h, hb⟩
  | cons b bs ih => exact ih (memory_wf_write h _ _) (cellsBelow_write hb a.isLt _) (a + 1)

/-- In canonical form, a store of no more bytes than there are addresses stores them. -/
theorem storedAt_writeBytes {m : List Host.Cell} (h : Memory.wf hostDefault m = true) (a : Addr) {bytes : List Byte}
    (hn : bytes.length ≤ 2 ^ 64) : storedAt m (writeBytes m a bytes) a bytes := by
  induction bytes generalizing m a with
  | nil => exact ⟨fun j hj => absurd hj (by simp), fun x _ => rfl⟩
  | cons b bs ih =>
    have hlen : bs.length + 1 ≤ 2 ^ 64 := hn
    obtain ⟨ihr, ihf⟩ := ih (memory_wf_write h a.toNat b) (a + 1) (by omega)
    have next : ∀ j, a + 1 + BitVec.ofNat 64 j = a + BitVec.ofNat 64 (j + 1) := fun j => by
      rw [BitVec.add_assoc]; congr 1; apply BitVec.eq_of_toNat_eq; simp [BitVec.toNat_add, Nat.add_comm]
    constructor
    · intro j hj
      cases j with
      | zero =>
        rw [writeBytes, ihf, memory_read_write h]
        · simp
        · intro j hj
          rw [next]
          simp only [BitVec.add_zero]
          intro he
          have h2 := BitVec.eq_of_toNat_eq he
          have h3 : BitVec.ofNat 64 (j + 1) = 0 := by
            have := congrArg (fun t => t - a) h2
            simpa [BitVec.add_comm a, BitVec.add_sub_cancel] using this
          have h4 := congrArg BitVec.toNat h3
          simp only [BitVec.toNat_ofNat] at h4
          rw [Nat.mod_eq_of_lt (by omega)] at h4
          simp at h4
      | succ j =>
        have hj' : j < bs.length := by simpa using hj
        rw [writeBytes, ← next, ihr j hj']
        simp
    · intro x hx
      rw [writeBytes, ihf x fun j hj => by rw [next]; exact hx (j + 1) (by simpa using hj), memory_read_write h,
        if_neg]
      intro he
      exact hx 0 (by simp) (by simp [he])

/-! ### Words of firmware memory -/

/-- A write of a firmware word is read back, and every other word reads as before (R59, R93). -/
theorem fwRead_fwWrite {s : State} (h : Memory.wf fwDefault s.fw = true) (a v x : Word) :
    fwRead (fwWrite s a v) x = if x = a then v else fwRead s x := by
  simp only [fwRead, fwWrite, memory_read_write h]
  by_cases hx : x = a
  · simp [hx]
  · have : x.toNat ≠ a.toNat := fun he => hx (BitVec.eq_of_toNat_eq he)
    simp [hx, this]

/-- A run of word writes changes firmware memory only, and keeps its form. -/
theorem fwWriteWords_frame (s : State) (a : Word) (ws : List Word) :
    ∃ m, fwWriteWords s a ws = { s with fw := m }
      ∧ (Memory.wf fwDefault s.fw = true → Memory.wf fwDefault m = true)
      ∧ (cellsBelow (2 ^ 16) s.fw = true → cellsBelow (2 ^ 16) m = true) := by
  induction ws generalizing s a with
  | nil => exact ⟨s.fw, rfl, id, id⟩
  | cons w ws ih =>
    obtain ⟨m, he, hw, hb⟩ := ih (fwWrite s a w) (a + 1)
    exact ⟨m, he, fun h => hw (memory_wf_write h _ _), fun h => hb (cellsBelow_write h a.isLt _)⟩

@[simp] theorem length_fwReadWords (s : State) (a : Word) (n : Nat) : (fwReadWords s a n).length = n := by
  induction n generalizing a with
  | zero => rfl
  | succ n ih => simp [fwReadWords, ih]

/-- Firmware memory after a reset is in canonical form, and reads the sentinel and zeros (R59). -/
theorem fwReset_wf : Memory.wf fwDefault fwReset = true ∧ cellsBelow (2 ^ 16) fwReset = true := by
  unfold fwReset
  split
  · exact ⟨rfl, rfl⟩
  · next h =>
    refine ⟨memory_wf_cons.2 ⟨h, by simp, rfl⟩, ?_⟩
    simp only [cellsBelow, List.all_cons, List.all_nil, Bool.and_true, decide_eq_true_eq]
    exact Config.fwSentinelAddr.isLt

end Sys2Proof.Laws
end

