-- ==== Sys2Proof/Laws/State.lean ====
section
/-! SUPPORT. One lemma for each group of State under each named update, true by `rfl`, so that no proof unfolds an update. -/

namespace Sys2Proof.Laws

open Sys2Proof.Machine Sys2Proof.Safety

/-! `returnRead` -/

@[simp] theorem returnRead_inst (v : Word) (s : State) : (returnRead v s).inst = s.inst := rfl
@[simp] theorem returnRead_reg (v : Word) (s : State) : (returnRead v s).reg = s.reg := rfl
@[simp] theorem returnRead_sxp (v : Word) (s : State) : (returnRead v s).sxp = s.sxp := rfl
@[simp] theorem returnRead_fw (v : Word) (s : State) : (returnRead v s).fw = s.fw := rfl
@[simp] theorem returnRead_flash (v : Word) (s : State) : (returnRead v s).flash = s.flash := rfl
@[simp] theorem returnRead_env (v : Word) (s : State) : (returnRead v s).env = { s.env with readData := v } := rfl
@[simp] theorem returnRead_faulted (v : Word) (s : State) : (returnRead v s).faulted = s.faulted := rfl

/-! `recordCall` -/

@[simp] theorem recordCall_inst (c : OracleCall) (s : State) : (recordCall c s).inst = s.inst := rfl
@[simp] theorem recordCall_reg (c : OracleCall) (s : State) : (recordCall c s).reg = s.reg := rfl
@[simp] theorem recordCall_sxp (c : OracleCall) (s : State) : (recordCall c s).sxp = s.sxp := rfl
@[simp] theorem recordCall_fw (c : OracleCall) (s : State) : (recordCall c s).fw = s.fw := rfl
@[simp] theorem recordCall_flash (c : OracleCall) (s : State) : (recordCall c s).flash = s.flash := rfl
@[simp] theorem recordCall_env (c : OracleCall) (s : State) :
    (recordCall c s).env = { s.env with calls := c :: s.env.calls } := rfl
@[simp] theorem recordCall_faulted (c : OracleCall) (s : State) : (recordCall c s).faulted = s.faulted := rfl

/-! `fwWrite` -/

@[simp] theorem fwWrite_inst (s : State) (a v : Word) : (fwWrite s a v).inst = s.inst := rfl
@[simp] theorem fwWrite_reg (s : State) (a v : Word) : (fwWrite s a v).reg = s.reg := rfl
@[simp] theorem fwWrite_sxp (s : State) (a v : Word) : (fwWrite s a v).sxp = s.sxp := rfl
@[simp] theorem fwWrite_fw (s : State) (a v : Word) :
    (fwWrite s a v).fw = Memory.write fwDefault s.fw a.toNat v := rfl
@[simp] theorem fwWrite_flash (s : State) (a v : Word) : (fwWrite s a v).flash = s.flash := rfl
@[simp] theorem fwWrite_env (s : State) (a v : Word) : (fwWrite s a v).env = s.env := rfl
@[simp] theorem fwWrite_faulted (s : State) (a v : Word) : (fwWrite s a v).faulted = s.faulted := rfl

/-! `hostStore` -/

@[simp] theorem hostStore_inst (s : State) (a : Addr) (bytes : List Byte) : (hostStore s a bytes).inst = s.inst := rfl
@[simp] theorem hostStore_reg (s : State) (a : Addr) (bytes : List Byte) : (hostStore s a bytes).reg = s.reg := rfl
@[simp] theorem hostStore_sxp (s : State) (a : Addr) (bytes : List Byte) : (hostStore s a bytes).sxp = s.sxp := rfl
@[simp] theorem hostStore_fw (s : State) (a : Addr) (bytes : List Byte) : (hostStore s a bytes).fw = s.fw := rfl
@[simp] theorem hostStore_flash (s : State) (a : Addr) (bytes : List Byte) :
    (hostStore s a bytes).flash = s.flash := rfl
@[simp] theorem hostStore_env (s : State) (a : Addr) (bytes : List Byte) :
    (hostStore s a bytes).env = { s.env with hostMem := writeBytes s.env.hostMem a bytes } := rfl
@[simp] theorem hostStore_faulted (s : State) (a : Addr) (bytes : List Byte) :
    (hostStore s a bytes).faulted = s.faulted := rfl

/-! `raiseFault` -/

@[simp] theorem raiseFault_inst (f : InternalFault) (s : State) : (raiseFault f s).inst = s.inst := rfl
@[simp] theorem raiseFault_reg (f : InternalFault) (s : State) : (raiseFault f s).reg = s.reg := rfl
@[simp] theorem raiseFault_sxp (f : InternalFault) (s : State) :
    (raiseFault f s).sxp = { s.sxp with running := false } := rfl
@[simp] theorem raiseFault_fw (f : InternalFault) (s : State) : (raiseFault f s).fw = s.fw := rfl
@[simp] theorem raiseFault_flash (f : InternalFault) (s : State) : (raiseFault f s).flash = s.flash := rfl
@[simp] theorem raiseFault_env (f : InternalFault) (s : State) : (raiseFault f s).env = s.env := rfl
@[simp] theorem raiseFault_faulted (f : InternalFault) (s : State) : (raiseFault f s).faulted = some f := rfl

/-! `postOutputs` -/

@[simp] theorem postOutputs_inst (s : State) : (postOutputs s).inst = s.inst := rfl
@[simp] theorem postOutputs_reg (s : State) :
    (postOutputs s).reg = { s.reg with
      sema := s.reg.sema ||| Param.semaLock
      mbout := postedOut s.sxp.mboutMask s.sxp.stageOut s.reg.mbout } := rfl
@[simp] theorem postOutputs_sxp (s : State) : (postOutputs s).sxp = s.sxp := rfl
@[simp] theorem postOutputs_fw (s : State) : (postOutputs s).fw = s.fw := rfl
@[simp] theorem postOutputs_flash (s : State) : (postOutputs s).flash = s.flash := rfl
@[simp] theorem postOutputs_env (s : State) : (postOutputs s).env = s.env := rfl
@[simp] theorem postOutputs_faulted (s : State) : (postOutputs s).faulted = s.faulted := rfl

/-! `publishReqOut` -/

@[simp] theorem publishReqOut_inst (s : State) : (publishReqOut s).inst = s.inst := rfl
@[simp] theorem publishReqOut_reg (s : State) :
    (publishReqOut s).reg = { s.reg with mbout := s.reg.mbout.set Param.reqSlot s.sxp.reqOut } := rfl
@[simp] theorem publishReqOut_sxp (s : State) : (publishReqOut s).sxp = s.sxp := rfl
@[simp] theorem publishReqOut_fw (s : State) : (publishReqOut s).fw = s.fw := rfl
@[simp] theorem publishReqOut_flash (s : State) : (publishReqOut s).flash = s.flash := rfl
@[simp] theorem publishReqOut_env (s : State) : (publishReqOut s).env = s.env := rfl
@[simp] theorem publishReqOut_faulted (s : State) : (publishReqOut s).faulted = s.faulted := rfl

/-! `advanceRespIn` -/

@[simp] theorem advanceRespIn_inst (s : State) : (advanceRespIn s).inst = s.inst := rfl
@[simp] theorem advanceRespIn_reg (s : State) :
    (advanceRespIn s).reg = { s.reg with
      mbout := s.reg.mbout.set Param.respSlot (ringAdd s.sxp.respIn 1 s.sxp.respLen) } := rfl
@[simp] theorem advanceRespIn_sxp (s : State) :
    (advanceRespIn s).sxp = { s.sxp with respIn := ringAdd s.sxp.respIn 1 s.sxp.respLen } := rfl
@[simp] theorem advanceRespIn_fw (s : State) : (advanceRespIn s).fw = s.fw := rfl
@[simp] theorem advanceRespIn_flash (s : State) : (advanceRespIn s).flash = s.flash := rfl
@[simp] theorem advanceRespIn_env (s : State) : (advanceRespIn s).env = s.env := rfl
@[simp] theorem advanceRespIn_faulted (s : State) : (advanceRespIn s).faulted = s.faulted := rfl

/-! `raiseInt` -/

@[simp] theorem raiseInt_inst (s : State) : (raiseInt s).inst = s.inst := rfl
@[simp] theorem raiseInt_reg (s : State) : (raiseInt s).reg = { s.reg with isr := isrRaised s.reg.isr } := rfl
@[simp] theorem raiseInt_sxp (s : State) : (raiseInt s).sxp = s.sxp := rfl
@[simp] theorem raiseInt_fw (s : State) : (raiseInt s).fw = s.fw := rfl
@[simp] theorem raiseInt_flash (s : State) : (raiseInt s).flash = s.flash := rfl
@[simp] theorem raiseInt_env (s : State) : (raiseInt s).env = s.env := rfl
@[simp] theorem raiseInt_faulted (s : State) : (raiseInt s).faulted = s.faulted := rfl

/-! `backToIdle` -/

@[simp] theorem backToIdle_inst (s : State) : (backToIdle s).inst = s.inst := rfl
@[simp] theorem backToIdle_reg (s : State) : (backToIdle s).reg = s.reg := rfl
@[simp] theorem backToIdle_sxp (s : State) :
    (backToIdle s).sxp = { s.sxp with pkt := none, pktResp := none, postKind := none, state := .idle } := rfl
@[simp] theorem backToIdle_fw (s : State) : (backToIdle s).fw = s.fw := rfl
@[simp] theorem backToIdle_flash (s : State) : (backToIdle s).flash = s.flash := rfl
@[simp] theorem backToIdle_env (s : State) : (backToIdle s).env = s.env := rfl
@[simp] theorem backToIdle_faulted (s : State) : (backToIdle s).faulted = s.faulted := rfl

/-! `finishPosting` -/

@[simp] theorem finishPosting_inst (s : State) : (finishPosting s).inst = s.inst := rfl
@[simp] theorem finishPosting_reg (s : State) :
    (finishPosting s).reg = { s.reg with isr := isrRaised s.reg.isr } := rfl
@[simp] theorem finishPosting_sxp (s : State) :
    (finishPosting s).sxp = { s.sxp with
      pkt := none
      pktResp := none
      postKind := none
      state := .idle
      mboutMask := 0 } := rfl
@[simp] theorem finishPosting_fw (s : State) : (finishPosting s).fw = s.fw := rfl
@[simp] theorem finishPosting_flash (s : State) : (finishPosting s).flash = s.flash := rfl
@[simp] theorem finishPosting_env (s : State) : (finishPosting s).env = s.env := rfl
@[simp] theorem finishPosting_faulted (s : State) : (finishPosting s).faulted = s.faulted := rfl

/-! `storeSema` -/

@[simp] theorem storeSema_inst (v : Word) (s : State) : (storeSema v s).inst = s.inst := rfl
@[simp] theorem storeSema_reg (v : Word) (s : State) :
    (storeSema v s).reg = { s.reg with sema := semaWritten s.reg.sema v } := rfl
@[simp] theorem storeSema_sxp (v : Word) (s : State) : (storeSema v s).sxp = s.sxp := rfl
@[simp] theorem storeSema_fw (v : Word) (s : State) : (storeSema v s).fw = s.fw := rfl
@[simp] theorem storeSema_flash (v : Word) (s : State) : (storeSema v s).flash = s.flash := rfl
@[simp] theorem storeSema_env (v : Word) (s : State) : (storeSema v s).env = s.env := rfl
@[simp] theorem storeSema_faulted (v : Word) (s : State) : (storeSema v s).faulted = s.faulted := rfl

/-! `clearInt` -/

@[simp] theorem clearInt_inst (s : State) : (clearInt s).inst = s.inst := rfl
@[simp] theorem clearInt_reg (s : State) : (clearInt s).reg = { s.reg with isr := isrCleared s.reg.isr } := rfl
@[simp] theorem clearInt_sxp (s : State) : (clearInt s).sxp = s.sxp := rfl
@[simp] theorem clearInt_fw (s : State) : (clearInt s).fw = s.fw := rfl
@[simp] theorem clearInt_flash (s : State) : (clearInt s).flash = s.flash := rfl
@[simp] theorem clearInt_env (s : State) : (clearInt s).env = s.env := rfl
@[simp] theorem clearInt_faulted (s : State) : (clearInt s).faulted = s.faulted := rfl

/-! `controllerReset` -/

@[simp] theorem controllerReset_inst (s : State) : (controllerReset s).inst = s.inst := rfl
@[simp] theorem controllerReset_reg (s : State) : (controllerReset s).reg = Regs.reset s.inst := rfl
@[simp] theorem controllerReset_sxp (s : State) :
    (controllerReset s).sxp = { Sxp.reset s.inst with running := s.sxp.running } := rfl
@[simp] theorem controllerReset_fw (s : State) : (controllerReset s).fw = fwReset := rfl
@[simp] theorem controllerReset_flash (s : State) : (controllerReset s).flash = s.flash := rfl
@[simp] theorem controllerReset_env (s : State) : (controllerReset s).env = s.env := rfl
@[simp] theorem controllerReset_faulted (s : State) : (controllerReset s).faulted = s.faulted := rfl

/-! `toState` -/

@[simp] theorem toState_inst (x : SxpState) (s : State) : (toState x s).inst = s.inst := rfl
@[simp] theorem toState_reg (x : SxpState) (s : State) : (toState x s).reg = s.reg := rfl
@[simp] theorem toState_sxp (x : SxpState) (s : State) : (toState x s).sxp = { s.sxp with state := x } := rfl
@[simp] theorem toState_fw (x : SxpState) (s : State) : (toState x s).fw = s.fw := rfl
@[simp] theorem toState_flash (x : SxpState) (s : State) : (toState x s).flash = s.flash := rfl
@[simp] theorem toState_env (x : SxpState) (s : State) : (toState x s).env = s.env := rfl
@[simp] theorem toState_faulted (x : SxpState) (s : State) : (toState x s).faulted = s.faulted := rfl

/-! `toComplete` -/

@[simp] theorem toComplete_inst (r : Response) (delay : Nat) (s : State) : (toComplete r delay s).inst = s.inst := rfl
@[simp] theorem toComplete_reg (r : Response) (delay : Nat) (s : State) : (toComplete r delay s).reg = s.reg := rfl
@[simp] theorem toComplete_sxp (r : Response) (delay : Nat) (s : State) :
    (toComplete r delay s).sxp = { s.sxp with
      pktResp := some r
      postDelay := delay
      state := .completeCommand } := rfl
@[simp] theorem toComplete_fw (r : Response) (delay : Nat) (s : State) : (toComplete r delay s).fw = s.fw := rfl
@[simp] theorem toComplete_flash (r : Response) (delay : Nat) (s : State) :
    (toComplete r delay s).flash = s.flash := rfl
@[simp] theorem toComplete_env (r : Response) (delay : Nat) (s : State) : (toComplete r delay s).env = s.env := rfl
@[simp] theorem toComplete_faulted (r : Response) (delay : Nat) (s : State) :
    (toComplete r delay s).faulted = s.faulted := rfl

/-! `stageResult` -/

@[simp] theorem stageResult_inst (status : Word) (outs : List (Fin 8 × Word)) (s : State) :
    (stageResult status outs s).inst = s.inst := rfl
@[simp] theorem stageResult_reg (status : Word) (outs : List (Fin 8 × Word)) (s : State) :
    (stageResult status outs s).reg = s.reg := rfl
@[simp] theorem stageResult_sxp (status : Word) (outs : List (Fin 8 × Word)) (s : State) :
    (stageResult status outs s).sxp = { s.sxp with
      stageOut := stagedWords status outs
      mboutMask := outMask outs
      postKind := some .mboxResult
      postDelay := Config.mboxOverhead
      state := .scheduleMboxInterrupt } := rfl
@[simp] theorem stageResult_fw (status : Word) (outs : List (Fin 8 × Word)) (s : State) :
    (stageResult status outs s).fw = s.fw := rfl
@[simp] theorem stageResult_flash (status : Word) (outs : List (Fin 8 × Word)) (s : State) :
    (stageResult status outs s).flash = s.flash := rfl
@[simp] theorem stageResult_env (status : Word) (outs : List (Fin 8 × Word)) (s : State) :
    (stageResult status outs s).env = s.env := rfl
@[simp] theorem stageResult_faulted (status : Word) (outs : List (Fin 8 × Word)) (s : State) :
    (stageResult status outs s).faulted = s.faulted := rfl

/-! `accept` -/

@[simp] theorem accept_inst (x : SxpState) (o : Origin) (b : List Byte) (s : State) :
    (accept x o b s).inst = s.inst := rfl
@[simp] theorem accept_reg (x : SxpState) (o : Origin) (b : List Byte) (s : State) :
    (accept x o b s).reg = s.reg := rfl
@[simp] theorem accept_sxp (x : SxpState) (o : Origin) (b : List Byte) (s : State) :
    (accept x o b s).sxp = { s.sxp with pkt := some { bytes := b, origin := o, skip := false }, state := x } := rfl
@[simp] theorem accept_fw (x : SxpState) (o : Origin) (b : List Byte) (s : State) : (accept x o b s).fw = s.fw := rfl
@[simp] theorem accept_flash (x : SxpState) (o : Origin) (b : List Byte) (s : State) :
    (accept x o b s).flash = s.flash := rfl
@[simp] theorem accept_env (x : SxpState) (o : Origin) (b : List Byte) (s : State) :
    (accept x o b s).env = s.env := rfl
@[simp] theorem accept_faulted (x : SxpState) (o : Origin) (b : List Byte) (s : State) :
    (accept x o b s).faulted = s.faulted := rfl

/-! `endPass` -/

@[simp] theorem endPass_inst (r : Suspend) (s : State) : (endPass r s).inst = s.inst := rfl
@[simp] theorem endPass_reg (r : Suspend) (s : State) : (endPass r s).reg = s.reg := rfl
@[simp] theorem endPass_sxp (r : Suspend) (s : State) : (endPass r s).sxp = { s.sxp with running := false } := rfl
@[simp] theorem endPass_fw (r : Suspend) (s : State) : (endPass r s).fw = s.fw := rfl
@[simp] theorem endPass_flash (r : Suspend) (s : State) : (endPass r s).flash = s.flash := rfl
@[simp] theorem endPass_env (r : Suspend) (s : State) :
    (endPass r s).env = { s.env with lastSuspend := some r } := rfl
@[simp] theorem endPass_faulted (r : Suspend) (s : State) : (endPass r s).faulted = s.faulted := rfl

/-! `flashWrite` -/

@[simp] theorem flashWrite_inst (d : Byte) (s : State) : (flashWrite d s).inst = s.inst := rfl
@[simp] theorem flashWrite_reg (d : Byte) (s : State) : (flashWrite d s).reg = s.reg := rfl
@[simp] theorem flashWrite_sxp (d : Byte) (s : State) : (flashWrite d s).sxp = s.sxp := rfl
@[simp] theorem flashWrite_fw (d : Byte) (s : State) : (flashWrite d s).fw = s.fw := rfl
@[simp] theorem flashWrite_flash (d : Byte) (s : State) :
    (flashWrite d s).flash = flWrite s.inst (flashAddrOf s) d s.flash := rfl
@[simp] theorem flashWrite_env (d : Byte) (s : State) : (flashWrite d s).env = s.env := rfl
@[simp] theorem flashWrite_faulted (d : Byte) (s : State) : (flashWrite d s).faulted = s.faulted := rfl

/-! `setDma` -/

@[simp] theorem setDma_inst (c : Fin 2) (d : DmaChannel) (s : State) : (setDma c d s).inst = s.inst := rfl
@[simp] theorem setDma_reg (c : Fin 2) (d : DmaChannel) (s : State) :
    (setDma c d s).reg = { s.reg with dma := s.reg.dma.set c d } := rfl
@[simp] theorem setDma_sxp (c : Fin 2) (d : DmaChannel) (s : State) : (setDma c d s).sxp = s.sxp := rfl
@[simp] theorem setDma_fw (c : Fin 2) (d : DmaChannel) (s : State) : (setDma c d s).fw = s.fw := rfl
@[simp] theorem setDma_flash (c : Fin 2) (d : DmaChannel) (s : State) : (setDma c d s).flash = s.flash := rfl
@[simp] theorem setDma_env (c : Fin 2) (d : DmaChannel) (s : State) : (setDma c d s).env = s.env := rfl
@[simp] theorem setDma_faulted (c : Fin 2) (d : DmaChannel) (s : State) : (setDma c d s).faulted = s.faulted := rfl

/-! `deviceSelected` -/

@[simp] theorem deviceSelected_inst (b : List Byte) (s : State) : (deviceSelected b s).inst = s.inst := rfl
@[simp] theorem deviceSelected_reg (b : List Byte) (s : State) : (deviceSelected b s).reg = s.reg := rfl
@[simp] theorem deviceSelected_sxp (b : List Byte) (s : State) :
    (deviceSelected b s).sxp = { s.sxp with curPath := pathOf b, curTarget := targetOf b, curLun := lunOf b } := rfl
@[simp] theorem deviceSelected_fw (b : List Byte) (s : State) : (deviceSelected b s).fw = s.fw := rfl
@[simp] theorem deviceSelected_flash (b : List Byte) (s : State) : (deviceSelected b s).flash = s.flash := rfl
@[simp] theorem deviceSelected_env (b : List Byte) (s : State) : (deviceSelected b s).env = s.env := rfl
@[simp] theorem deviceSelected_faulted (b : List Byte) (s : State) : (deviceSelected b s).faulted = s.faulted := rfl

/-! `consumed` -/

@[simp] theorem consumed_inst (p : Packet) (s : State) : (consumed p s).inst = s.inst := rfl
@[simp] theorem consumed_reg (p : Packet) (s : State) : (consumed p s).reg = s.reg := rfl
@[simp] theorem consumed_sxp (p : Packet) (s : State) :
    (consumed p s).sxp = { s.sxp with reqOut := ringAdd s.sxp.reqOut (slotsOf p.bytes) s.sxp.reqLen } := rfl
@[simp] theorem consumed_fw (p : Packet) (s : State) : (consumed p s).fw = s.fw := rfl
@[simp] theorem consumed_flash (p : Packet) (s : State) : (consumed p s).flash = s.flash := rfl
@[simp] theorem consumed_env (p : Packet) (s : State) : (consumed p s).env = s.env := rfl
@[simp] theorem consumed_faulted (p : Packet) (s : State) : (consumed p s).faulted = s.faulted := rfl

end Sys2Proof.Laws
end

