-- ==== Sys2Proof/Laws/Ops.lean ====
section
/-! SUPPORT. For each shared operation over oracles and host memory, one lemma that says once everything it can do; and the
arithmetic of ring cursors. -/

namespace Sys2Proof.Laws

open Sys2Proof.Machine Sys2Proof.Safety

/-! ### Oracle answers -/

/-- A queued DMA answer is taken. -/
theorem drawDma_cons {s : State} {a : Bool} {q : List Bool} (h : s.env.oracle.dma = a :: q) :
    drawDma s = (a, { s with env := { s.env with oracle := { s.env.oracle with dma := q } } }) := by
  simp [drawDma, h]

/-- A queued presence answer is taken. -/
theorem drawPresent_cons {s : State} {a : Bool} {q : List Bool} (h : s.env.oracle.present = a :: q) :
    drawPresent s = (a, { s with env := { s.env with oracle := { s.env.oracle with present := q } } }) := by
  simp [drawPresent, h]

/-- A queued command reply is taken. -/
theorem drawReply_cons {s : State} {a : CommandReply} {q : List CommandReply} (h : s.env.oracle.reply = a :: q) :
    drawReply s = (a, { s with env := { s.env with oracle := { s.env.oracle with reply := q } } }) := by
  simp [drawReply, h]

/-- Queued sense data is taken, at most 32 bytes of it. -/
theorem drawSense_cons {s : State} {a : List Byte} {q : List (List Byte)} (h : s.env.oracle.sense = a :: q) :
    drawSense s =
      (a.take Param.senseMax, { s with env := { s.env with oracle := { s.env.oracle with sense := q } } }) := by
  simp [drawSense, h]

@[simp] theorem dmaAsked_zero (o : Oracle) : dmaAsked 0 o = o := by simp [dmaAsked]

/-- Calls of the DMA interface add up. -/
@[simp] theorem dmaAsked_dmaAsked (m n : Nat) (o : Oracle) : dmaAsked n (dmaAsked m o) = dmaAsked (m + n) o := by
  simp only [dmaAsked, List.drop_drop, List.length_drop, Oracle.mk.injEq, true_and, and_true]
  omega

/-- A call that takes a queued answer. -/
theorem dmaAsked_cons (n : Nat) (o : Oracle) (a : Bool) (q : List Bool) (h : o.dma = a :: q) :
    dmaAsked (n + 1) o = dmaAsked n { o with dma := q } := by
  simp [dmaAsked, h]

/-- Asking the DMA interface is one call of it, and changes the oracle alone. -/
theorem drawDma_frame (s : State) : (drawDma s).2 = { s with env := { s.env with oracle := dmaAsked 1 s.env.oracle } } := by
  unfold drawDma dmaAsked
  split <;> next h => simp [h]

/-- Asking for a target changes the oracle's queue alone. -/
theorem drawPresent_frame (s : State) : ∃ o, (drawPresent s).2 = { s with env := { s.env with oracle := o } } := by
  unfold drawPresent; split <;> exact ⟨_, rfl⟩

/-- A command's reply changes the oracle's queue alone. -/
theorem drawReply_frame (s : State) : ∃ o, (drawReply s).2 = { s with env := { s.env with oracle := o } } := by
  unfold drawReply; split <;> exact ⟨_, rfl⟩

/-- Sense data changes the oracle's queue alone. -/
theorem drawSense_frame (s : State) : ∃ o, (drawSense s).2 = { s with env := { s.env with oracle := o } } := by
  unfold drawSense; split <;> exact ⟨_, rfl⟩

/-- An NVRAM answer changes the oracle's queue alone. -/
theorem drawNvram_frame (s : State) : ∃ o, (drawNvram s).2 = { s with env := { s.env with oracle := o } } := by
  unfold drawNvram; split <;> exact ⟨_, rfl⟩

/-! ### Host memory through the DMA interface -/

/-- A read of host memory: the bytes there, or an error, after one call of the DMA interface, or none for no bytes; the state
changes in the oracle alone. -/
theorem memRead_cases (s : State) (a : Addr) (n : Nat) :
    memRead s a n = .ok (readBytes s.env.hostMem a n)
        { s with env := { s.env with oracle := dmaAsked (min n 1) s.env.oracle } }
      ∨ memRead s a n = .error { s with env := { s.env with oracle := dmaAsked 1 s.env.oracle } } := by
  unfold memRead
  split
  · next h => subst h; exact .inl (by simp [readBytes])
  · have hn : min n 1 = 1 := by omega
    have ho := drawDma_frame s
    rcases hd : drawDma s with ⟨b, t⟩
    rw [hd] at ho
    rw [hn]
    subst ho
    cases b
    · exact .inr rfl
    · exact .inl rfl

/-- A read of host memory that the DMA interface grants. -/
theorem memRead_granted {s : State} {q : List Bool} (h : s.env.oracle.dma = true :: q) (a : Addr) {n : Nat} (hn : n ≠ 0) :
    memRead s a n = .ok (readBytes s.env.hostMem a n)
      { s with env := { s.env with oracle := { s.env.oracle with dma := q } } } := by
  simp [memRead, hn, drawDma_cons h]

/-- A read of host memory that the DMA interface refuses. -/
theorem memRead_refused {s : State} {q : List Bool} (h : s.env.oracle.dma = false :: q) (a : Addr) {n : Nat} (hn : n ≠ 0) :
    memRead s a n = .error { s with env := { s.env with oracle := { s.env.oracle with dma := q } } } := by
  simp [memRead, hn, drawDma_cons h]

/-- A write of host memory: the bytes are stored, or nothing is and it is an error, after one call of the DMA interface, or
none for no bytes; beside that, the state changes in the oracle alone. -/
theorem memWrite_cases (s : State) (a : Addr) (bytes : List Byte) :
    memWrite s a bytes = .ok () { s with env := { s.env with
        oracle := dmaAsked (min bytes.length 1) s.env.oracle, hostMem := writeBytes s.env.hostMem a bytes } }
      ∨ memWrite s a bytes = .error { s with env := { s.env with oracle := dmaAsked 1 s.env.oracle } } := by
  unfold memWrite
  split
  · next h =>
    rw [List.isEmpty_iff] at h
    subst h
    exact .inl (by simp [writeBytes])
  · next h =>
    have hn : min bytes.length 1 = 1 := by
      have : bytes.length ≠ 0 := fun h0 => h (by simpa using h0)
      omega
    have ho := drawDma_frame s
    rcases hd : drawDma s with ⟨b, t⟩
    rw [hd] at ho
    rw [hn]
    subst ho
    cases b
    · exact .inr rfl
    · exact .inl rfl

/-- A write of host memory that the DMA interface grants. -/
theorem memWrite_granted {s : State} {q : List Bool} (h : s.env.oracle.dma = true :: q) (a : Addr) {bytes : List Byte}
    (hn : bytes ≠ []) :
    memWrite s a bytes = .ok () { s with env := { s.env with
      oracle := { s.env.oracle with dma := q }, hostMem := writeBytes s.env.hostMem a bytes } } := by
  simp [memWrite, hn, drawDma_cons h, hostStore]

/-- A write of host memory that the DMA interface refuses. -/
theorem memWrite_refused {s : State} {q : List Bool} (h : s.env.oracle.dma = false :: q) (a : Addr) {bytes : List Byte}
    (hn : bytes ≠ []) :
    memWrite s a bytes = .error { s with env := { s.env with oracle := { s.env.oracle with dma := q } } } := by
  simp [memWrite, hn, drawDma_cons h]

@[simp] theorem length_senseBytes (l : List Byte) : (senseBytes l).length = 32 := by
  simp only [senseBytes, Param.senseMax, List.length_append, List.length_take, List.length_replicate]; omega

@[simp] theorem length_responseBytes (r : Response) : (responseBytes r).length = 64 := by
  simp [responseBytes, put32, put16]

/-- A response entry is written and the producer moves, or nothing is written and it is an error (R441). -/
theorem writeResp_cases (r : Response) (s : State) :
    writeResp r s = .ok () (advanceRespIn { s with env := { s.env with
        oracle := dmaAsked 1 s.env.oracle
        hostMem := writeBytes s.env.hostMem (slotAddr s.sxp.respBase s.sxp.respIn) (responseBytes r) } })
      ∨ writeResp r s = .error { s with env := { s.env with oracle := dmaAsked 1 s.env.oracle } } := by
  unfold writeResp
  rcases memWrite_cases s (slotAddr s.sxp.respBase s.sxp.respIn) (responseBytes r) with h | h <;> rw [h]
  · exact .inl (by simp)
  · exact .inr rfl

/-- A response entry that the DMA interface takes (R441). -/
theorem writeResp_granted {s : State} {q : List Bool} (h : s.env.oracle.dma = true :: q) (r : Response) :
    writeResp r s = .ok () (advanceRespIn { s with env := { s.env with
      oracle := { s.env.oracle with dma := q }
      hostMem := writeBytes s.env.hostMem (slotAddr s.sxp.respBase s.sxp.respIn) (responseBytes r) } }) := by
  have hne : responseBytes r ≠ [] := List.ne_nil_of_length_pos (by simp)
  rw [writeResp, memWrite_granted h _ hne]

/-! ### Parameters of targets and buses -/

/-- No two keys have one place (R61). -/
theorem bparamIdx_injective {k k' : BParam} (h : bparamIdx k = bparamIdx k') : k = k' := by
  cases k <;> cases k' <;> first | rfl | exact absurd h (by decide)

/-- A target's parameters replaced: they are the new ones, and every other target's are as before (R60). -/
theorem targetParam_setTargetParam (b b' : Fin 2) (t t' : Fin 128) (p : TargetParam) (s : State) :
    targetParam (setTargetParam b t p s).sxp b' t' = if b' = b ∧ t' = t then p else targetParam s.sxp b' t' := by
  simp only [targetParam, setTargetParam, Fin.getElem_fin, Vector.getElem_set, Fin.ext_iff]
  by_cases hb : b.val = b'.val
  · have hb' : b'.val = b.val := hb.symm
    by_cases ht : t.val = t'.val
    · simp [hb', ht.symm]
    · simp [hb', ht, Ne.symm ht]
  · simp [hb, Ne.symm hb]

/-- A target's parameters replaced: every bus parameter is as before (R61). -/
theorem busParam_setTargetParam (b b' : Fin 2) (t : Fin 128) (p : TargetParam) (k : BParam) (s : State) :
    busParam (setTargetParam b t p s).sxp b' k = busParam s.sxp b' k := by
  simp only [busParam, setTargetParam, Fin.getElem_fin, Vector.getElem_set]
  by_cases hb : b.val = b'.val <;> simp [hb]

/-- A bus parameter replaced: it is the new one, and every other is as before (R61). -/
theorem busParam_setBusParam (b b' : Fin 2) (k k' : BParam) (v : Word) (s : State) :
    busParam (setBusParam b k v s).sxp b' k' = if b' = b ∧ k' = k then v else busParam s.sxp b' k' := by
  have hk : (bparamIdx k).val = (bparamIdx k').val ↔ k' = k :=
    ⟨fun h => (bparamIdx_injective (Fin.ext h)).symm, fun h => by rw [h]⟩
  simp only [busParam, setBusParam, Fin.getElem_fin, Vector.getElem_set, Fin.ext_iff (a := b')]
  by_cases hb : b.val = b'.val
  · have hb' : b'.val = b.val := hb.symm
    by_cases hk' : k' = k <;> simp [hb', hk', hk]
  · simp [hb, Ne.symm hb]

/-- A bus parameter replaced: every target's parameters are as before (R60). -/
theorem targetParam_setBusParam (b b' : Fin 2) (k : BParam) (t : Fin 128) (v : Word) (s : State) :
    targetParam (setBusParam b k v s).sxp b' t = targetParam s.sxp b' t := by
  simp only [targetParam, setBusParam, Fin.getElem_fin, Vector.getElem_set]
  by_cases hb : b.val = b'.val <;> simp [hb]

/-! ### Bank windows -/

/-- An offset reaches a bank exactly if it is in a bank window of the generation (R122, R123). -/
theorem bankOf_eq_none (c : DecodeCtx) (off : Word) : bankOf c off = none ↔ inBankWindow c.gen off = false := by
  unfold bankOf inBankWindow
  by_cases hg : c.gen = .old <;> by_cases hd : inWindow Param.dmaWinBase Param.dmaWinSize off = true <;>
    by_cases hb : inWindow Param.bankWinBase Param.bankWinSize off = true <;> simp [hg, hd, hb]

/-- What R121 asks of PIO_PORT: an even offset, in no bank window, and no other fixed register's. -/
theorem pioPort_legal {g : Gen} {n : OpenNumbers} (h : fixedOffsetsLegal g n = true) :
    oddOffset n.pioPort = false ∧ inBankWindow g n.pioPort = false ∧ ∀ e ∈ candidateRegs, e.1 ≠ n.pioPort := by
  simp only [fixedOffsetsLegal, fixedRegs, List.map_append, List.map_cons, List.map_nil, Bool.and_eq_true, List.all_eq_true,
    decide_eq_true_eq, Bool.not_eq_true', List.nodup_append] at h
  obtain ⟨hall, -, -, hne⟩ := h
  obtain ⟨h1, h2⟩ := hall n.pioPort (by simp)
  exact ⟨h1, h2, fun e he => hne _ (List.mem_map_of_mem he) _ (by simp)⟩

/-! ### Ring cursors -/

/-- A moved cursor is inside a ring that has a length (R53, R403). -/
theorem ringAdd_lt (c : Word) (n : Nat) {len : Word} (h : 0 < len.toNat) : (ringAdd c n len).toNat < len.toNat := by
  have h1 : (c.toNat + n) % len.toNat < len.toNat := Nat.mod_lt _ h
  have h2 := len.isLt
  simp only [ringAdd, BitVec.toNat_ofNat]
  rw [Nat.mod_eq_of_lt (by omega)]
  exact h1

@[simp] theorem ringMod_toNat (c len : Word) : (ringMod c len).toNat = c.toNat % len.toNat := by
  simp [ringMod, BitVec.toNat_umod]

end Sys2Proof.Laws
end

