-- ==== Sys2Proof/Laws/Engine.lean ====
section
/-! SUPPORT. The step loop (R400): what one step of it does, where the passes of a mailbox result and of a completed
descriptor end, and how many steps a pass from `Idle` takes. -/

namespace Sys2Proof.Laws

open Sys2Proof.Machine Sys2Proof.Safety

/-! ### One step of the loop -/

theorem runPass_go {n : Nat} {s t : State} (h : engineStep s = .go t) : runPass (n + 1) s = runPass n t := by
  rw [runPass, h]

theorem runPass_suspend {n : Nat} {s t : State} {r : Suspend} (h : engineStep s = .suspend t r) :
    runPass (n + 1) s = endPass r t := by
  rw [runPass, h]

theorem runPass_fault {n : Nat} {s t : State} {f : InternalFault} (h : engineStep s = .fault t f) :
    runPass (n + 1) s = raiseFault f t := by
  rw [runPass, h]

/-- The rest of a pass does not depend on whether the pass was marked as running. -/
theorem resume_running (s : State) : resume { s with sxp := { s.sxp with running := true } } = resume s := rfl

/-! ### Mailbox results -/

/-- The pass of a mailbox result ends at once, in the wait for its posting (R401, R437). -/
theorem resume_stageResult {s : State} (h : s.sxp.mboxCmdPending = false) (status : Word) (outs : List (Fin 8 × Word)) :
    resume (stageResult status outs s) = resultStaged status outs s := by
  have hs : s = { s with sxp := { s.sxp with mboxCmdPending := false } } := by rw [← h]
  rw [hs]
  rfl

/-- A mailbox command that answers a result, in a state `t` where its pending bit is clear: the result waits for its
posting (R401, R437). -/
theorem resume_takeMailbox_result {body : State → MboxAnswer} {s t : State} {status : Word} {outs : List (Fin 8 × Word)}
    (h : body { s with sxp := { s.sxp with mboxCmdPending := false } } =
      .result status outs { t with sxp := { t.sxp with mboxCmdPending := false } }) :
    resume (takeMailbox body s) = resultStaged status outs t := by
  rw [takeMailbox, h]
  exact resume_stageResult rfl status outs

/-! ### Completion of a descriptor -/

theorem set_first_four (v : Vector Word 8) (a b c d : Word) :
    (((v.set 0 a).set 1 b).set 2 c).set 3 d = #v[a, b, c, d, v[4], v[5], v[6], v[7]] := by
  ext i hi
  match i, hi with
  | 0, _ | 1, _ | 2, _ | 3, _ | 4, _ | 5, _ | 6, _ | 7, _ => simp

theorem set_first_three (v : Vector Word 8) (a b c : Word) :
    ((v.set 0 a).set 1 b).set 2 c = #v[a, b, c, v[3], v[4], v[5], v[6], v[7]] := by
  ext i hi
  match i, hi with
  | 0, _ | 1, _ | 2, _ | 3, _ | 4, _ | 5, _ | 6, _ | 7, _ => simp

/-- From `CompleteCommand` the pass takes two steps, to the wait that R430 chooses (R430, R435, R437, R439). -/
theorem runPass_complete (n : Nat) {s : State} {p : Packet} {r : Response} (hs : s.sxp.state = .completeCommand)
    (hp : s.sxp.pkt = some p) (hr : s.sxp.pktResp = some r) :
    runPass (n + 2) s = completionWaits p r s.sxp.postDelay s := by
  obtain ⟨b, o, skip⟩ := p
  have hs' : s = { s with sxp := { s.sxp with
      state := .completeCommand, pkt := some ⟨b, o, skip⟩, pktResp := some r } } := by rw [← hs, ← hp, ← hr]
  rw [hs']
  cases o with
  | bios a => simp only [completionWaits, completionStaged, ← set_first_four]; rfl
  | direct a => simp only [completionWaits, completionStaged, ← set_first_four]; rfl
  | ring slot =>
    rw [runPass_go (t := { s with sxp := completeRing ⟨b, .ring slot, skip⟩ r { s.sxp with
      state := .completeCommand, pkt := some ⟨b, .ring slot, skip⟩, pktResp := some r } }) rfl]
    simp only [completionWaits, fastPostStaged, ← set_first_three, silentEntry, cleanResponse, completeRing, consumed,
      Bool.or_eq_true, beq_iff_eq, Bool.and_eq_true]
    split
    · rfl
    · split <;> rfl

/-- The wait after a completion does not depend on how the response was staged. -/
theorem completionWaits_toComplete (p : Packet) (r r' : Response) (d d' : Nat) (s : State) :
    completionWaits p r d (toComplete r' d' s) = completionWaits p r d s := by
  obtain ⟨b, o, skip⟩ := p
  cases o with
  | bios a => rfl
  | direct a => rfl
  | ring slot =>
    simp only [completionWaits]
    split
    · rfl
    · split <;> split <;> first | rfl | simp_all

/-- A descriptor whose response is staged: the pass takes two more steps (R430). -/
theorem runPass_toComplete (n : Nat) {s : State} {p : Packet} (hp : s.sxp.pkt = some p) (r : Response) (d : Nat) :
    runPass (n + 2) (toComplete r d s) = completionWaits p r d s := by
  rw [runPass_complete n (s := toComplete r d s) (p := p) (r := r) rfl hp rfl, toComplete_sxp, completionWaits_toComplete]

/-- A bad packet: the pass takes three steps (R411). -/
theorem runPass_badPacket (n : Nat) {s : State} {p : Packet} (hs : s.sxp.state = .badPacket) (hp : s.sxp.pkt = some p) :
    runPass (n + 3) s = completionWaits p { newResp p.bytes with completionStatus := Param.csIncomplete, hflags := hfBad }
      Config.mboxOverhead s := by
  rw [runPass_go (t := toComplete { newResp p.bytes with completionStatus := Param.csIncomplete, hflags := hfBad }
    Config.mboxOverhead s) (by simp [engineStep, hs, onPacket, hp, stepBadPacket])]
  exact runPass_toComplete n hp _ _

/-- A selection that timed out: the pass takes three steps (R415). -/
theorem runPass_selectionTimeout (n : Nat) {s : State} {p : Packet} (hs : s.sxp.state = .selectionTimeout)
    (hp : s.sxp.pkt = some p) :
    runPass (n + 3) s = completionWaits p
      { newResp p.bytes with
        completionStatus := Param.csIncomplete
        statusFlags := Param.stfTimeout
        stateFlags := Param.seltoStateFlags
        time := Config.respTime 0 none } Config.selTimeoutDelay s := by
  rw [runPass_go (t := toComplete
    { newResp p.bytes with
      completionStatus := Param.csIncomplete
      statusFlags := Param.stfTimeout
      stateFlags := Param.seltoStateFlags
      time := Config.respTime 0 none } Config.selTimeoutDelay s)
    (by simp [engineStep, hs, onPacket, hp, stepSelectionTimeout])]
  exact runPass_toComplete n hp _ _

/-! ### The answer `Pending` -/

/-- The mailbox commands that answer `Pending` queue a direct request and do no more (R319, R334, R340, R401). -/
theorem mailboxBodies_pending (n : OpenNumbers) : ∀ e ∈ mailboxBodies n, ∀ s t, e.2 s = .pending t →
    ∃ d, t = { s with sxp := { s.sxp with directReq := some d } } := by
  unfold mailboxBodies candidateBodies
  simp only [List.cons_append, List.nil_append, List.forall_mem_cons, List.not_mem_nil, false_implies, implies_true, and_true]
  and_intros <;> (
    intro s t h
    try simp only [
      bodyNoOp, bodyLoadRam, bodyExecFirmware, bodyDumpRam, bodyWriteRamWord, bodyReadRamWord, bodyMailboxRegTest,
      bodyVerifyChecksum, bodyAboutFirmware, bodyInitReqQueue, bodyInitResQueue, bodyExecuteIocb, bodyWakeUp,
      bodyStopFirmware, bodyAbort, bodyAbortDevice, bodyAbortTarget, bodyBusReset, bodyStopQueue, bodyStartQueue,
      bodySingleStepQueue, bodyAbortQueue, bodyGetDevQueueStatus, bodyGetFirmwareStatus, bodyGetInitScsiId,
      bodyGetSelectTimeout, bodyGetRetryCount, bodyGetTagAgeLimit, bodyGetClockRate, bodyGetActNegState,
      bodyGetAsyncDataSetupTime, bodyGetPciParams, bodyGetTargetParams, bodyGetDevQueueParams,
      bodyGetResetDelayParams, bodySetInitScsiId, bodySetSelectTimeout, bodySetRetryCount, bodySetTagAgeLimit,
      bodySetClockRate, bodySetActNegState, bodySetAsyncDataSetupTime, bodySetPciParams, bodySetTargetParams,
      bodySetDevQueueParams, bodySetResetDelayParams, bodyReturnBiosBlockAddr, bodyWriteFourRamWords,
      bodyExecuteBiosIocb, bodySetFirmwareFeatures, bodyGetFirmwareFeatures, bodyLoadRamA64, bodyDumpRamA64,
      bodyInitReqQueueA64, bodyInitResQueueA64, bodyExecuteIocbA64, bodyReadFourRamWords, completed,
      badParam, checkedBt, loadRam, dumpRam, initReqQueue, initResQueue, queueDirect, getBusParam, setBusParams] at h
    repeat' split at h
    all_goals first | exact ⟨_, (MboxAnswer.pending.inj h).symm⟩ | cases h)

/-- The same, for the command that an opcode word names. -/
theorem mailboxBody_pending {n : OpenNumbers} {op : Word} {s t : State} (h : mailboxBody n op s = .pending t) :
    ∃ d, t = { s with sxp := { s.sxp with directReq := some d } } := by
  unfold mailboxBody at h
  rcases he : List.find? (fun e => e.1 == op) (mailboxBodies n) with _ | e
  · simp [he, bodyInvalid] at h
  · simp only [he] at h
    exact mailboxBodies_pending n e (List.mem_of_find?_eq_some he) s t h

/-! ### How many steps a pass takes -/

/-- The pass from `s` ends within `k` steps of the loop: more fuel changes nothing (R450). -/
def endsWithin (k : Nat) (s : State) : Prop := ∀ n, k ≤ n → runPass n s = runPass k s

theorem endsWithin_mono {k m : Nat} {s : State} (h : endsWithin k s) (hm : k ≤ m) : endsWithin m s := fun n hn => by
  rw [h n (by omega), h m hm]

theorem endsWithin_go {k : Nat} {s t : State} (h : engineStep s = .go t) (ht : endsWithin k t) : endsWithin (k + 1) s := by
  intro n hn
  obtain ⟨m, rfl⟩ : ∃ m, n = m + 1 := ⟨n - 1, by omega⟩
  rw [runPass_go h, runPass_go h]
  exact ht m (by omega)

theorem endsWithin_suspend {s t : State} {r : Suspend} (h : engineStep s = .suspend t r) : endsWithin 1 s := by
  intro n hn
  obtain ⟨m, rfl⟩ : ∃ m, n = m + 1 := ⟨n - 1, by omega⟩
  rw [runPass_suspend h, runPass_suspend h]

theorem endsWithin_fault {s t : State} {f : InternalFault} (h : engineStep s = .fault t f) : endsWithin 1 s := by
  intro n hn
  obtain ⟨m, rfl⟩ : ∃ m, n = m + 1 := ⟨n - 1, by omega⟩
  rw [runPass_fault h, runPass_fault h]

/-- Ends one step later, whatever the step does: the steps that go on lead to a state that ends within `k`. -/
theorem endsWithin_step {k : Nat} {s : State} (h : ∀ t, engineStep s = .go t → endsWithin k t) : endsWithin (k + 1) s := by
  rcases hs : engineStep s with t | ⟨t, r⟩ | ⟨t, f⟩
  · exact endsWithin_go hs (h t hs)
  · exact endsWithin_mono (endsWithin_suspend hs) (by omega)
  · exact endsWithin_mono (endsWithin_fault hs) (by omega)

/-- The scheduling states suspend at once (R435, R437, R439). -/
theorem endsWithin_schedule {s : State}
    (h : s.sxp.state = .scheduleRiscInterrupt ∨ s.sxp.state = .scheduleMboxInterrupt ∨ s.sxp.state = .scheduleTimerSilence) :
    endsWithin 1 s := by
  rcases h with h | h | h <;> exact endsWithin_suspend (by simp only [engineStep, h, stepSchedule]; rfl)

theorem completeRing_state (p : Packet) (r : Response) (x : Sxp) :
    (completeRing p r x).state = .scheduleRiscInterrupt ∨ (completeRing p r x).state = .scheduleMboxInterrupt
      ∨ (completeRing p r x).state = .scheduleTimerSilence := by
  simp only [completeRing]
  split
  · simp
  · split <;> simp

theorem endsWithin_complete {s : State} (h : s.sxp.state = .completeCommand) : endsWithin 2 s := by
  refine endsWithin_step fun t ht => endsWithin_schedule ?_
  simp only [engineStep, h, onPacket, stepComplete] at ht
  repeat' split at ht
  all_goals first
    | (obtain rfl := EngineStep.go.inj ht; simp [completeRing_state])
    | cases ht

theorem endsWithin_toComplete (r : Response) (d : Nat) (s : State) : endsWithin 2 (toComplete r d s) :=
  endsWithin_complete rfl

theorem endsWithin_sendCdb {s : State} (h : s.sxp.state = .sendCdb) : endsWithin 3 s := by
  refine endsWithin_step fun t ht => ?_
  simp only [engineStep, h, onPacket, stepSendCdb, sendBios, sendCommand] at ht
  repeat' split at ht
  all_goals first | (obtain rfl := EngineStep.go.inj ht; exact endsWithin_toComplete _ _ _) | cases ht

theorem endsWithin_badPacket {s : State} (h : s.sxp.state = .badPacket) : endsWithin 3 s := by
  refine endsWithin_step fun t ht => ?_
  simp only [engineStep, h, onPacket, stepBadPacket] at ht
  split at ht
  · obtain rfl := EngineStep.go.inj ht; exact endsWithin_toComplete _ _ _
  · exact absurd ht (by simp)

theorem endsWithin_selectionTimeout {s : State} (h : s.sxp.state = .selectionTimeout) : endsWithin 3 s := by
  refine endsWithin_step fun t ht => ?_
  simp only [engineStep, h, onPacket, stepSelectionTimeout] at ht
  split at ht
  · obtain rfl := EngineStep.go.inj ht; exact endsWithin_toComplete _ _ _
  · exact absurd ht (by simp)

theorem endsWithin_selectDevice {s : State} (h : s.sxp.state = .selectDevice) : endsWithin 4 s := by
  refine endsWithin_step fun t ht => ?_
  simp only [engineStep, h, onPacket, stepSelectDevice, selectCommand, selectMarker] at ht
  repeat' split at ht
  all_goals first
    | (obtain rfl := EngineStep.go.inj ht; first
        | exact endsWithin_mono (endsWithin_toComplete _ _ _) (by omega)
        | exact endsWithin_selectionTimeout rfl
        | exact endsWithin_sendCdb rfl)
    | cases ht

/-- An idle engine with no mailbox command pending: the pass ends within five steps (R402 to R405, R450). -/
theorem endsWithin_idle_noCommand {s : State} (h : s.sxp.state = .idle) (hp : s.sxp.mboxCmdPending = false) : endsWithin 5 s := by
  refine endsWithin_step fun t ht => ?_
  simp only [engineStep, h, stepIdle, hp, Bool.false_eq_true, if_false] at ht
  split at ht
  · exact absurd ht (by simp)
  · obtain rfl := EngineStep.go.inj ht
    simp only [accept, dispatchState]
    split
    · exact endsWithin_selectDevice rfl
    · exact endsWithin_mono (endsWithin_badPacket rfl) (by omega)
  · obtain rfl := EngineStep.go.inj ht
    exact endsWithin_mono (endsWithin_toComplete _ _ _) (by omega)
  · exact absurd ht (by simp)

/-- An idle engine: the pass ends within six steps, whatever work there is (R401 to R405, R450; log 36). -/
theorem endsWithin_idle {s : State} (h : s.sxp.state = .idle) : endsWithin 6 s := by
  by_cases hp : s.sxp.mboxCmdPending = true
  · refine endsWithin_step fun t ht => ?_
    simp only [engineStep, h, stepIdle, hp, if_true, takeMailbox] at ht
    obtain rfl := EngineStep.go.inj ht
    split
    · next u hu =>
      obtain ⟨d, rfl⟩ := mailboxBody_pending hu
      exact endsWithin_idle_noCommand rfl rfl
    · exact endsWithin_mono (endsWithin_schedule (.inr (.inl rfl))) (by omega)
  · exact endsWithin_mono (endsWithin_idle_noCommand h (by simpa using hp)) (by omega)

/-- A pass that comes to an idle engine with at least six steps of fuel left goes on as a fresh one would (R443, R450). -/
theorem runPass_idle {s : State} (h : s.sxp.state = .idle) {n : Nat} (hn : 6 ≤ n) : runPass n s = runPass passFuel s := by
  rw [endsWithin_idle h n hn, endsWithin_idle h passFuel (by decide)]

end Sys2Proof.Laws
end

