-- ==== Sys2Proof/Laws/PerInstr.lean ====
section
/-! SUPPORT. One lemma for each instruction, of what its encoding may depend on. -/

namespace Sys2Proof.Laws.EncodeGen

/-- The encoding of an instruction depends on the generation and the open numbers alone: not on the bank selected, nor on the
flash (R121, R127). -/
def Statement (i : Instr) : Prop :=
  ∀ c c' : DecodeCtx, c.gen = c'.gen → c.nums = c'.nums → encode c i = encode c' i

/-- Two contexts of one generation and one set of open numbers that an instruction's encoding does not tell apart. -/
theorem of_gen {i : Instr} (h : ∀ g v p v' p' n, encode ⟨g, v, p, n⟩ i = encode ⟨g, v', p', n⟩ i) : Statement i := by
  rintro ⟨g, v, p, n⟩ ⟨g', v', p', n'⟩ (rfl : g = g') (rfl : n = n')
  exact h g v p v' p' n

theorem readOdd (off : Word) : Statement (.readOdd off) := of_gen fun _ _ _ _ _ _ => rfl
theorem writeOdd (off : Word) (v : Word) : Statement (.writeOdd off v) := of_gen fun _ _ _ _ _ _ => rfl
theorem accessUnmapped (off : Word) (w : Option Word) : Statement (.accessUnmapped off w) := of_gen fun _ _ _ _ _ _ => rfl
theorem readIdLo : Statement .readIdLo := of_gen fun _ _ _ _ _ _ => rfl
theorem writeIdLo (v : Word) : Statement (.writeIdLo v) := of_gen fun _ _ _ _ _ _ => rfl
theorem readIdHi : Statement .readIdHi := of_gen fun _ _ _ _ _ _ => rfl
theorem writeIdHi (v : Word) : Statement (.writeIdHi v) := of_gen fun _ _ _ _ _ _ => rfl
theorem readConf0 : Statement .readConf0 := of_gen fun _ _ _ _ _ _ => rfl
theorem writeConf0 (v : Word) : Statement (.writeConf0 v) := of_gen fun _ _ _ _ _ _ => rfl
theorem readConf1 : Statement .readConf1 := of_gen fun _ _ _ _ _ _ => rfl
theorem writeConf1 (v : Word) : Statement (.writeConf1 v) := of_gen fun _ _ _ _ _ _ => rfl
theorem readIcr : Statement .readIcr := of_gen fun _ _ _ _ _ _ => rfl
theorem writeIcr (v : Word) : Statement (.writeIcr v) := of_gen fun _ _ _ _ _ _ => rfl
theorem readIsr : Statement .readIsr := of_gen fun _ _ _ _ _ _ => rfl
theorem writeIsr (v : Word) : Statement (.writeIsr v) := of_gen fun _ _ _ _ _ _ => rfl
theorem readSema : Statement .readSema := of_gen fun _ _ _ _ _ _ => rfl
theorem writeSema (v : Word) : Statement (.writeSema v) := of_gen fun _ _ _ _ _ _ => rfl
theorem readNvram : Statement .readNvram := of_gen fun _ _ _ _ _ _ => rfl
theorem writeNvram (v : Word) : Statement (.writeNvram v) := of_gen fun _ _ _ _ _ _ => rfl
theorem readFlashData : Statement .readFlashData := of_gen fun _ _ _ _ _ _ => rfl
theorem writeFlashData (v : Word) : Statement (.writeFlashData v) := of_gen fun _ _ _ _ _ _ => rfl
theorem readFlashAddr : Statement .readFlashAddr := of_gen fun _ _ _ _ _ _ => rfl
theorem writeFlashAddr (v : Word) : Statement (.writeFlashAddr v) := of_gen fun _ _ _ _ _ _ => rfl
theorem readPioPort : Statement .readPioPort := of_gen fun _ _ _ _ _ _ => rfl
theorem writePioPort (v : Word) : Statement (.writePioPort v) := of_gen fun _ _ _ _ _ _ => rfl
theorem readMbox0 : Statement .readMbox0 := of_gen fun _ _ _ _ _ _ => rfl
theorem writeMbox0 (v : Word) : Statement (.writeMbox0 v) := of_gen fun _ _ _ _ _ _ => rfl
theorem readMbox1 : Statement .readMbox1 := of_gen fun _ _ _ _ _ _ => rfl
theorem writeMbox1 (v : Word) : Statement (.writeMbox1 v) := of_gen fun _ _ _ _ _ _ => rfl
theorem readMbox2 : Statement .readMbox2 := of_gen fun _ _ _ _ _ _ => rfl
theorem writeMbox2 (v : Word) : Statement (.writeMbox2 v) := of_gen fun _ _ _ _ _ _ => rfl
theorem readMbox3 : Statement .readMbox3 := of_gen fun _ _ _ _ _ _ => rfl
theorem writeMbox3 (v : Word) : Statement (.writeMbox3 v) := of_gen fun _ _ _ _ _ _ => rfl
theorem readMbox4 : Statement .readMbox4 := of_gen fun _ _ _ _ _ _ => rfl
theorem writeMbox4 (v : Word) : Statement (.writeMbox4 v) := of_gen fun _ _ _ _ _ _ => rfl
theorem readMbox5 : Statement .readMbox5 := of_gen fun _ _ _ _ _ _ => rfl
theorem writeMbox5 (v : Word) : Statement (.writeMbox5 v) := of_gen fun _ _ _ _ _ _ => rfl
theorem readMbox6 : Statement .readMbox6 := of_gen fun _ _ _ _ _ _ => rfl
theorem writeMbox6 (v : Word) : Statement (.writeMbox6 v) := of_gen fun _ _ _ _ _ _ => rfl
theorem readMbox7 : Statement .readMbox7 := of_gen fun _ _ _ _ _ _ => rfl
theorem writeMbox7 (v : Word) : Statement (.writeMbox7 v) := of_gen fun _ _ _ _ _ _ => rfl
theorem readRiscPsr : Statement .readRiscPsr := of_gen fun _ _ _ _ _ _ => rfl
theorem writeRiscPsr (v : Word) : Statement (.writeRiscPsr v) := of_gen fun _ _ _ _ _ _ => rfl
theorem readRiscPc : Statement .readRiscPc := of_gen fun _ _ _ _ _ _ => rfl
theorem writeRiscPc (v : Word) : Statement (.writeRiscPc v) := of_gen fun _ _ _ _ _ _ => rfl
theorem readRiscMtr : Statement .readRiscMtr := of_gen fun _ _ _ _ _ _ => rfl
theorem writeRiscMtr (v : Word) : Statement (.writeRiscMtr v) := of_gen fun _ _ _ _ _ _ => rfl
theorem readGpioData : Statement .readGpioData := of_gen fun _ _ _ _ _ _ => rfl
theorem writeGpioData (v : Word) : Statement (.writeGpioData v) := of_gen fun _ _ _ _ _ _ => rfl
theorem readGpioEnable : Statement .readGpioEnable := of_gen fun _ _ _ _ _ _ => rfl
theorem writeGpioEnable (v : Word) : Statement (.writeGpioEnable v) := of_gen fun _ _ _ _ _ _ => rfl
theorem readHccr : Statement .readHccr := of_gen fun _ _ _ _ _ _ => rfl
theorem readSxpPinsDiff (b : Fin 2) (w : Option Word) : Statement (.readSxpPinsDiff b w) := of_gen fun _ _ _ _ _ _ => rfl
theorem accessDmaConf0 (w : Option Word) : Statement (.accessDmaConf0 w) := of_gen fun _ _ _ _ _ _ => rfl
theorem accessDmaControl0 (w : Option Word) : Statement (.accessDmaControl0 w) := of_gen fun _ _ _ _ _ _ => rfl
theorem accessDmaStatus0 (w : Option Word) : Statement (.accessDmaStatus0 w) := of_gen fun _ _ _ _ _ _ => rfl
theorem accessDmaFifo0 (w : Option Word) : Statement (.accessDmaFifo0 w) := of_gen fun _ _ _ _ _ _ => rfl
theorem accessDmaAddr00 (w : Option Word) : Statement (.accessDmaAddr00 w) := of_gen fun _ _ _ _ _ _ => rfl
theorem accessDmaAddr01 (w : Option Word) : Statement (.accessDmaAddr01 w) := of_gen fun _ _ _ _ _ _ => rfl
theorem accessDmaAddr02 (w : Option Word) : Statement (.accessDmaAddr02 w) := of_gen fun _ _ _ _ _ _ => rfl
theorem accessDmaAddr03 (w : Option Word) : Statement (.accessDmaAddr03 w) := of_gen fun _ _ _ _ _ _ => rfl
theorem accessDmaConf1 (w : Option Word) : Statement (.accessDmaConf1 w) := of_gen fun _ _ _ _ _ _ => rfl
theorem accessDmaControl1 (w : Option Word) : Statement (.accessDmaControl1 w) := of_gen fun _ _ _ _ _ _ => rfl
theorem accessDmaStatus1 (w : Option Word) : Statement (.accessDmaStatus1 w) := of_gen fun _ _ _ _ _ _ => rfl
theorem accessDmaFifo1 (w : Option Word) : Statement (.accessDmaFifo1 w) := of_gen fun _ _ _ _ _ _ => rfl
theorem accessDmaAddr10 (w : Option Word) : Statement (.accessDmaAddr10 w) := of_gen fun _ _ _ _ _ _ => rfl
theorem accessDmaAddr11 (w : Option Word) : Statement (.accessDmaAddr11 w) := of_gen fun _ _ _ _ _ _ => rfl
theorem accessDmaAddr12 (w : Option Word) : Statement (.accessDmaAddr12 w) := of_gen fun _ _ _ _ _ _ => rfl
theorem accessDmaAddr13 (w : Option Word) : Statement (.accessDmaAddr13 w) := of_gen fun _ _ _ _ _ _ => rfl
theorem hccrNop (low : BitVec 12) : Statement (.hccrNop low) := of_gen fun _ _ _ _ _ _ => rfl
theorem hccrResetRisc (low : BitVec 12) : Statement (.hccrResetRisc low) := of_gen fun _ _ _ _ _ _ => rfl
theorem hccrPauseRisc (low : BitVec 12) : Statement (.hccrPauseRisc low) := of_gen fun _ _ _ _ _ _ => rfl
theorem hccrReleaseRisc (low : BitVec 12) : Statement (.hccrReleaseRisc low) := of_gen fun _ _ _ _ _ _ => rfl
theorem hccrSingleStep (low : BitVec 12) : Statement (.hccrSingleStep low) := of_gen fun _ _ _ _ _ _ => rfl
theorem hccrSetHostInt (low : BitVec 12) : Statement (.hccrSetHostInt low) := of_gen fun _ _ _ _ _ _ => rfl
theorem hccrClearHostInt (low : BitVec 12) : Statement (.hccrClearHostInt low) := of_gen fun _ _ _ _ _ _ => rfl
theorem hccrClearRiscInt (low : BitVec 12) : Statement (.hccrClearRiscInt low) := of_gen fun _ _ _ _ _ _ => rfl
theorem hccrUndefined (cmd : BitVec 4) (low : BitVec 12) : Statement (.hccrUndefined cmd low) := of_gen fun _ _ _ _ _ _ => rfl
theorem mboxNoOp : Statement .mboxNoOp := of_gen fun _ _ _ _ _ _ => rfl
theorem mboxLoadRam : Statement .mboxLoadRam := of_gen fun _ _ _ _ _ _ => rfl
theorem mboxExecFirmware : Statement .mboxExecFirmware := of_gen fun _ _ _ _ _ _ => rfl
theorem mboxDumpRam : Statement .mboxDumpRam := of_gen fun _ _ _ _ _ _ => rfl
theorem mboxWriteRamWord : Statement .mboxWriteRamWord := of_gen fun _ _ _ _ _ _ => rfl
theorem mboxReadRamWord : Statement .mboxReadRamWord := of_gen fun _ _ _ _ _ _ => rfl
theorem mboxMailboxRegTest : Statement .mboxMailboxRegTest := of_gen fun _ _ _ _ _ _ => rfl
theorem mboxVerifyChecksum : Statement .mboxVerifyChecksum := of_gen fun _ _ _ _ _ _ => rfl
theorem mboxAboutFirmware : Statement .mboxAboutFirmware := of_gen fun _ _ _ _ _ _ => rfl
theorem mboxInitReqQueue : Statement .mboxInitReqQueue := of_gen fun _ _ _ _ _ _ => rfl
theorem mboxInitResQueue : Statement .mboxInitResQueue := of_gen fun _ _ _ _ _ _ => rfl
theorem mboxExecuteIocb : Statement .mboxExecuteIocb := of_gen fun _ _ _ _ _ _ => rfl
theorem mboxWakeUp : Statement .mboxWakeUp := of_gen fun _ _ _ _ _ _ => rfl
theorem mboxStopFirmware : Statement .mboxStopFirmware := of_gen fun _ _ _ _ _ _ => rfl
theorem mboxAbort : Statement .mboxAbort := of_gen fun _ _ _ _ _ _ => rfl
theorem mboxAbortDevice : Statement .mboxAbortDevice := of_gen fun _ _ _ _ _ _ => rfl
theorem mboxAbortTarget : Statement .mboxAbortTarget := of_gen fun _ _ _ _ _ _ => rfl
theorem mboxBusReset : Statement .mboxBusReset := of_gen fun _ _ _ _ _ _ => rfl
theorem mboxStopQueue : Statement .mboxStopQueue := of_gen fun _ _ _ _ _ _ => rfl
theorem mboxStartQueue : Statement .mboxStartQueue := of_gen fun _ _ _ _ _ _ => rfl
theorem mboxSingleStepQueue : Statement .mboxSingleStepQueue := of_gen fun _ _ _ _ _ _ => rfl
theorem mboxAbortQueue : Statement .mboxAbortQueue := of_gen fun _ _ _ _ _ _ => rfl
theorem mboxGetDevQueueStatus : Statement .mboxGetDevQueueStatus := of_gen fun _ _ _ _ _ _ => rfl
theorem mboxGetFirmwareStatus : Statement .mboxGetFirmwareStatus := of_gen fun _ _ _ _ _ _ => rfl
theorem mboxGetInitScsiId : Statement .mboxGetInitScsiId := of_gen fun _ _ _ _ _ _ => rfl
theorem mboxGetSelectTimeout : Statement .mboxGetSelectTimeout := of_gen fun _ _ _ _ _ _ => rfl
theorem mboxGetRetryCount : Statement .mboxGetRetryCount := of_gen fun _ _ _ _ _ _ => rfl
theorem mboxGetTagAgeLimit : Statement .mboxGetTagAgeLimit := of_gen fun _ _ _ _ _ _ => rfl
theorem mboxGetClockRate : Statement .mboxGetClockRate := of_gen fun _ _ _ _ _ _ => rfl
theorem mboxGetActNegState : Statement .mboxGetActNegState := of_gen fun _ _ _ _ _ _ => rfl
theorem mboxGetAsyncDataSetupTime : Statement .mboxGetAsyncDataSetupTime := of_gen fun _ _ _ _ _ _ => rfl
theorem mboxGetPciParams : Statement .mboxGetPciParams := of_gen fun _ _ _ _ _ _ => rfl
theorem mboxGetTargetParams : Statement .mboxGetTargetParams := of_gen fun _ _ _ _ _ _ => rfl
theorem mboxGetDevQueueParams : Statement .mboxGetDevQueueParams := of_gen fun _ _ _ _ _ _ => rfl
theorem mboxGetResetDelayParams : Statement .mboxGetResetDelayParams := of_gen fun _ _ _ _ _ _ => rfl
theorem mboxSetInitScsiId : Statement .mboxSetInitScsiId := of_gen fun _ _ _ _ _ _ => rfl
theorem mboxSetSelectTimeout : Statement .mboxSetSelectTimeout := of_gen fun _ _ _ _ _ _ => rfl
theorem mboxSetRetryCount : Statement .mboxSetRetryCount := of_gen fun _ _ _ _ _ _ => rfl
theorem mboxSetTagAgeLimit : Statement .mboxSetTagAgeLimit := of_gen fun _ _ _ _ _ _ => rfl
theorem mboxSetClockRate : Statement .mboxSetClockRate := of_gen fun _ _ _ _ _ _ => rfl
theorem mboxSetActNegState : Statement .mboxSetActNegState := of_gen fun _ _ _ _ _ _ => rfl
theorem mboxSetAsyncDataSetupTime : Statement .mboxSetAsyncDataSetupTime := of_gen fun _ _ _ _ _ _ => rfl
theorem mboxSetPciParams : Statement .mboxSetPciParams := of_gen fun _ _ _ _ _ _ => rfl
theorem mboxSetTargetParams : Statement .mboxSetTargetParams := of_gen fun _ _ _ _ _ _ => rfl
theorem mboxSetDevQueueParams : Statement .mboxSetDevQueueParams := of_gen fun _ _ _ _ _ _ => rfl
theorem mboxSetResetDelayParams : Statement .mboxSetResetDelayParams := of_gen fun _ _ _ _ _ _ => rfl
theorem mboxReturnBiosBlockAddr : Statement .mboxReturnBiosBlockAddr := of_gen fun _ _ _ _ _ _ => rfl
theorem mboxWriteFourRamWords : Statement .mboxWriteFourRamWords := of_gen fun _ _ _ _ _ _ => rfl
theorem mboxExecuteBiosIocb : Statement .mboxExecuteBiosIocb := of_gen fun _ _ _ _ _ _ => rfl
theorem mboxSetFirmwareFeatures : Statement .mboxSetFirmwareFeatures := of_gen fun _ _ _ _ _ _ => rfl
theorem mboxGetFirmwareFeatures : Statement .mboxGetFirmwareFeatures := of_gen fun _ _ _ _ _ _ => rfl
theorem mboxLoadRamA64 : Statement .mboxLoadRamA64 := of_gen fun _ _ _ _ _ _ => rfl
theorem mboxDumpRamA64 : Statement .mboxDumpRamA64 := of_gen fun _ _ _ _ _ _ => rfl
theorem mboxInitReqQueueA64 : Statement .mboxInitReqQueueA64 := of_gen fun _ _ _ _ _ _ => rfl
theorem mboxInitResQueueA64 : Statement .mboxInitResQueueA64 := of_gen fun _ _ _ _ _ _ => rfl
theorem mboxExecuteIocbA64 : Statement .mboxExecuteIocbA64 := of_gen fun _ _ _ _ _ _ => rfl
theorem mboxReadFourRamWords : Statement .mboxReadFourRamWords := of_gen fun _ _ _ _ _ _ => rfl
theorem mboxInvalid (op : Word) : Statement (.mboxInvalid op) := of_gen fun _ _ _ _ _ _ => rfl
theorem iocbCmd (o : Origin) (b : List Byte) : Statement (.iocbCmd o b) := of_gen fun _ _ _ _ _ _ => rfl
theorem iocbCont (o : Origin) (b : List Byte) : Statement (.iocbCont o b) := of_gen fun _ _ _ _ _ _ => rfl
theorem iocbResp (o : Origin) (b : List Byte) : Statement (.iocbResp o b) := of_gen fun _ _ _ _ _ _ => rfl
theorem iocbMarker (o : Origin) (b : List Byte) : Statement (.iocbMarker o b) := of_gen fun _ _ _ _ _ _ => rfl
theorem iocbCmd64 (o : Origin) (b : List Byte) : Statement (.iocbCmd64 o b) := of_gen fun _ _ _ _ _ _ => rfl
theorem iocbCont64 (o : Origin) (b : List Byte) : Statement (.iocbCont64 o b) := of_gen fun _ _ _ _ _ _ => rfl
theorem iocbUnknown (o : Origin) (b : List Byte) : Statement (.iocbUnknown o b) := of_gen fun _ _ _ _ _ _ => rfl
theorem flashUnlockAa : Statement .flashUnlockAa := of_gen fun _ _ _ _ _ _ => rfl
theorem flashUnlock55 : Statement .flashUnlock55 := of_gen fun _ _ _ _ _ _ => rfl
theorem flashAutoselect : Statement .flashAutoselect := of_gen fun _ _ _ _ _ _ => rfl
theorem flashProgram : Statement .flashProgram := of_gen fun _ _ _ _ _ _ => rfl
theorem flashEraseSetup : Statement .flashEraseSetup := of_gen fun _ _ _ _ _ _ => rfl
theorem flashChipErase : Statement .flashChipErase := of_gen fun _ _ _ _ _ _ => rfl
theorem flashBlockErase : Statement .flashBlockErase := of_gen fun _ _ _ _ _ _ => rfl
theorem flashReadArray : Statement .flashReadArray := of_gen fun _ _ _ _ _ _ => rfl
theorem flashProgramData (d : Byte) : Statement (.flashProgramData d) := of_gen fun _ _ _ _ _ _ => rfl
theorem flashRead : Statement .flashRead := of_gen fun _ _ _ _ _ _ => rfl

end Sys2Proof.Laws.EncodeGen
end

