-- ==== Sys2Proof/Laws/Transfer.lean ====
section
/-! SUPPORT. The transfers of `SendCdb` (R420, R425): what a continuation walk, a scatter and a gather do when the DMA interface
answers every call. -/

namespace Sys2Proof.Laws

open Sys2Proof.Machine Sys2Proof.Safety

/-! ### Descriptors: the model's fields and the statements' -/

/-- The fresh response of the engine is that of R406. -/
theorem newResp_eq (b : List Byte) : newResp b = freshResponse b := rfl

/-- The bytes that the engine takes for a command are those that R420 names, in any descriptor that holds them. -/
theorem cdbOf_eq {b : List Byte} (h : 32 ≤ b.length) :
    cdbOf b = (List.range (min (le16 b 10).toNat 12)).map fun k => byteAt b (20 + k) := by
  apply List.ext_getElem
  · simp only [cdbOf, Param.cdbMax, List.length_take, List.length_drop, List.length_map, List.length_range]; omega
  · intro i h1 h2
    simp only [List.length_map, List.length_range] at h2
    simp [cdbOf, byteAt, List.getElem?_eq_getElem (show 20 + i < b.length by omega)]

/-- A command's own segments (R142, R143). -/
theorem inlineSegments_eq (b : List Byte) : inlineSegments b = commandSegments b := rfl

/-- A slot of a continuation type holds its segments (R144, R145). -/
theorem contSegments_some {c : List Byte} (h : isContinuation c = true) : contSegments c = some (continuationSegments c) := by
  simp only [isContinuation, Bool.or_eq_true, beq_iff_eq] at h
  change (if byteAt c 0 = Param.etCont then _ else if byteAt c 0 = Param.etCont64 then _ else none) = _
  unfold continuationSegments
  split
  · rfl
  · next h0 => rw [if_pos (h.resolve_left h0)]; rfl

/-- A slot of no continuation type holds none (R425). -/
theorem contSegments_none {c : List Byte} (h : isContinuation c = false) : contSegments c = none := by
  simp only [isContinuation, Bool.or_eq_false_iff, beq_eq_false_iff_ne] at h
  change (if byteAt c 0 = Param.etCont then _ else if byteAt c 0 = Param.etCont64 then _ else none) = _
  rw [if_neg h.1, if_neg h.2]

/-! ### The continuation walk -/

/-- A walk that has its segments, or no slot left, reads nothing (R425). -/
theorem contWalk_done {want n : Nat} {segs : List Segment} (h : n = 0 ∨ want ≤ segs.length) (slot : Word) (s : State) :
    contWalk want n slot segs s = .ok segs s := by
  cases n with
  | zero => rfl
  | succ n => rw [contWalk, if_pos (by omega)]

/-- A walk that reads a continuation takes its segments and goes on at the next slot (R425). -/
theorem contWalk_next {want n : Nat} {segs more : List Segment} {slot : Word} {s : State} {q : List Bool}
    (hw : segs.length < want) (hd : s.env.oracle.dma = true :: q)
    (hc : contSegments (readBytes s.env.hostMem (slotAddr s.sxp.reqBase slot) Param.iocbSize) = some more) :
    contWalk want (n + 1) slot segs s =
      contWalk want n (ringAdd slot 1 s.sxp.reqLen) (segs ++ more.take (want - segs.length))
        { s with env := { s.env with oracle := { s.env.oracle with dma := q } } } := by
  rw [contWalk, if_neg (by omega), memRead_granted hd _ (by decide)]
  simp only [hc]

/-- A walk that reads a slot of no continuation type faults (R425). -/
theorem contWalk_bad {want n : Nat} {segs : List Segment} {slot : Word} {s : State} {q : List Bool}
    (hw : segs.length < want) (hd : s.env.oracle.dma = true :: q)
    (hc : contSegments (readBytes s.env.hostMem (slotAddr s.sxp.reqBase slot) Param.iocbSize) = none) :
    contWalk want (n + 1) slot segs s =
      .fault { s with env := { s.env with oracle := { s.env.oracle with dma := q } } } .badContinuation := by
  rw [contWalk, if_neg (by omega), memRead_granted hd _ (by decide)]
  simp only [hc]

/-- A walk whose read of a slot the DMA interface refuses faults (R425). -/
theorem contWalk_refused {want n : Nat} {segs : List Segment} {slot : Word} {s : State} {q : List Bool}
    (hw : segs.length < want) (hd : s.env.oracle.dma = false :: q) :
    contWalk want (n + 1) slot segs s =
      .fault { s with env := { s.env with oracle := { s.env.oracle with dma := q } } } .dmaFailure := by
  rw [contWalk, if_neg (by omega), memRead_refused hd _ (by decide)]

/-! ### Scatter and gather -/

/-- Host memory with `bytes` stored over segments, in order. -/
def storeSegments (m : List Host.Cell) : List Segment → List Byte → List Host.Cell
  | [], _ => m
  | g :: gs, bytes => storeSegments (writeBytes m g.base (bytes.take g.count)) gs (bytes.drop g.count)

/-- No bytes stored. -/
theorem storeSegments_nil (m : List Host.Cell) (segs : List Segment) : storeSegments m segs [] = m := by
  induction segs with
  | nil => rfl
  | cons g gs ih => simpa [storeSegments, writeBytes] using ih

/-- `n` bytes of host memory over segments, in order. -/
def loadSegments (m : List Host.Cell) : List Segment → Nat → List Byte
  | [], _ => []
  | g :: gs, n => readBytes m g.base (min g.count n) ++ loadSegments m gs (n - g.count)

/-- A scatter whose calls all succeed, one for each segment touched (R420). -/
theorem scatter_granted {dq : List Bool} (segs : List Segment) : ∀ (bytes : List Byte) (s : State),
    s.env.oracle.dma = List.replicate (piecesUsed segs bytes.length) true ++ dq →
      scatter segs bytes s = .ok () { s with env := { s.env with
        hostMem := storeSegments s.env.hostMem segs bytes
        oracle := { s.env.oracle with dma := dq } } } := by
  induction segs with
  | nil => intro bytes s h; simp only [piecesUsed, List.replicate_zero, List.nil_append] at h; subst h; rfl
  | cons g gs ih =>
    intro bytes s h
    rw [piecesUsed, ← List.length_drop (i := g.count)] at h
    by_cases h0 : min g.count bytes.length = 0
    · have hn : bytes.take g.count = [] := List.eq_nil_of_length_eq_zero (by simpa using h0)
      rw [if_pos h0, Nat.zero_add] at h
      rw [scatter, hn, storeSegments, hn]
      exact ih _ s h
    · have hn : bytes.take g.count ≠ [] := fun e => h0 (by simpa using congrArg List.length e)
      rw [if_neg h0, Nat.add_comm, List.replicate_succ, List.cons_append] at h
      rw [scatter, memWrite_granted h _ hn, storeSegments]
      exact ih _ _ rfl

/-- A gather whose calls all succeed, one for each segment touched (R420). -/
theorem gather_granted {dq : List Bool} (segs : List Segment) : ∀ (n : Nat) (s : State),
    s.env.oracle.dma = List.replicate (piecesUsed segs n) true ++ dq →
      gather segs n s = .ok (loadSegments s.env.hostMem segs n)
        { s with env := { s.env with oracle := { s.env.oracle with dma := dq } } } := by
  induction segs with
  | nil => intro n s h; simp only [piecesUsed, List.replicate_zero, List.nil_append] at h; subst h; rfl
  | cons g gs ih =>
    intro n s h
    rw [piecesUsed] at h
    by_cases h0 : min g.count n = 0
    · rw [if_pos h0, Nat.zero_add] at h
      rw [gather, h0, loadSegments, h0]
      simp only [memRead, readBytes, List.nil_append, if_true]
      rw [ih _ s h]
    · rw [if_neg h0, Nat.add_comm, List.replicate_succ, List.cons_append] at h
      rw [gather, memRead_granted h _ h0, loadSegments]
      simp only []
      rw [ih (n - g.count) _ rfl]

/-- No call of a transfer is left once all its bytes have moved. -/
theorem piecesUsed_zero (segs : List Segment) : piecesUsed segs 0 = 0 := by
  induction segs with
  | nil => rfl
  | cons g gs ih => simp [piecesUsed, ih]

/-- A scatter whose call number `k` is refused: the segments before it are stored, and no more (R420). -/
theorem scatter_refused {dq : List Bool} (segs : List Segment) : ∀ (bytes : List Byte) (k : Nat) (s : State),
    k < piecesUsed segs bytes.length → s.env.oracle.dma = List.replicate k true ++ false :: dq →
      scatter segs bytes s = .error { s with env := { s.env with
        hostMem := storeSegments s.env.hostMem segs (bytes.take (bytesInPieces segs k))
        oracle := { s.env.oracle with dma := dq } } } := by
  induction segs with
  | nil => intro bytes k s hk; simp [piecesUsed] at hk
  | cons g gs ih =>
    intro bytes k s hk h
    by_cases hg : g.count = 0
    · simp only [piecesUsed, hg, Nat.zero_min, if_true, Nat.sub_zero, Nat.zero_add] at hk
      simp only [scatter, storeSegments, bytesInPieces, hg, List.take_zero, List.drop_zero, writeBytes, if_true, memWrite,
        List.isEmpty_nil]
      exact ih bytes k s hk h
    · have hn : bytes ≠ [] := by rintro rfl; rw [List.length_nil, piecesUsed_zero] at hk; omega
      have ht : bytes.take g.count ≠ [] := by simp [List.take_eq_nil_iff, hg, hn]
      cases k with
      | zero =>
        simp only [bytesInPieces, hg, if_false, if_true, List.take_zero]
        rw [scatter, memWrite_refused h _ ht]
        simp only []
        rw [storeSegments_nil]
      | succ k =>
        have hc : min g.count bytes.length ≠ 0 := by
          have : 0 < bytes.length := List.length_pos_of_ne_nil hn
          omega
        rw [piecesUsed, if_neg hc] at hk
        have hk' : k < piecesUsed gs (bytes.length - g.count) := by omega
        rw [List.replicate_succ, List.cons_append] at h
        rw [scatter, memWrite_granted h _ ht]
        simp only []
        rw [ih (bytes.drop g.count) k _ (by rwa [List.length_drop]) rfl]
        simp only [bytesInPieces, hg, if_false, Nat.add_one_ne_zero, Nat.add_sub_cancel, storeSegments]
        rw [List.take_take, Nat.min_eq_left (by omega), List.drop_take, Nat.add_sub_cancel_left]

/-- A gather whose call number `k` is refused (R420). -/
theorem gather_refused {dq : List Bool} (segs : List Segment) : ∀ (n k : Nat) (s : State),
    k < piecesUsed segs n → s.env.oracle.dma = List.replicate k true ++ false :: dq →
      gather segs n s = .error { s with env := { s.env with oracle := { s.env.oracle with dma := dq } } } := by
  induction segs with
  | nil => intro n k s hk; simp [piecesUsed] at hk
  | cons g gs ih =>
    intro n k s hk h
    rw [piecesUsed] at hk
    by_cases h0 : min g.count n = 0
    · rw [if_pos h0, Nat.zero_add] at hk
      rw [gather, h0]
      simp only [memRead, if_true]
      rw [ih _ k s hk h]
    · rw [if_neg h0] at hk
      cases k with
      | zero => rw [gather, memRead_refused h _ h0]
      | succ k =>
        rw [List.replicate_succ, List.cons_append] at h
        rw [gather, memRead_granted h _ h0]
        simp only []
        rw [ih (n - g.count) k _ (by omega) rfl]

end Sys2Proof.Laws
end

