-- ==== Sys2Proof/Tests/Slice0.lean ====
section
/-! SUPPORT. Tests: ill-formed terms that the checks refuse, requests written out from spec/30_encoding.md, single steps with
results from spec/95_test_vectors.md, and for each statement with hypotheses a state and operands that meet them. -/

namespace Sys2Proof.Tests

open Sys2Proof.Machine Sys2Proof.Safety

/-! ### Contexts, states and descriptors -/

/-- GEN_OLD with the RISC bank selected. -/
def oldRisc : DecodeCtx := ⟨.old, 0x0000, false, tableNums⟩

/-- GEN_OLD with the SXP bank selected. -/
def oldSxp : DecodeCtx := ⟨.old, 0x0008, false, tableNums⟩

/-- The flash waits for program data. -/
def programming : DecodeCtx := ⟨.old, 0x0000, true, tableNums⟩

/-- The power-on state with firmware memory all 0: the sentinel of R59 has no known address. -/
def idle : State := { State.reset with fw := [] }

/-- Answers of the oracles still to come. -/
def answers (o : Oracle) (s : State) : State := { s with env := { s.env with oracle := o } }

/-- DMA answers still to come. -/
def dmaAnswers (q : List Bool) (s : State) : State := answers { s.env.oracle with dma := q } s

/-- Input mailboxes. -/
def mailboxes (m : Vector Word 8) (s : State) : State := { s with reg := { s.reg with mbin := m } }

/-- Events still to come. -/
def events (l : List HostEvent) (s : State) : State := { s with env := { s.env with script := l } }

/-- A part of the engine replaced. -/
def engine (f : Sxp → Sxp) (s : State) : State := { s with sxp := f s.sxp }

/-- A part of the flash unit replaced. -/
def flash (f : Flash → Flash) (s : State) : State := { s with flash := f s.flash }

/-- Two rings of four entries, at 0x00100000 and 0x00200000, with `n` as the host's producer. -/
def rings (n : Word) : State :=
  mailboxes #v[0, 0, 0, 0, n, 0, 0, 0] <| engine (fun x => { x with
    reqInit := true, respInit := true, reqLen := 4, respLen := 4, reqBase := 0x00100000, respBase := 0x00200000 }) idle

/-- A descriptor of 64 bytes: type, count, target byte, segment count, and the bytes from 32 on. -/
def descriptor (type count target segments : Byte) (rest : List Byte) : List Byte :=
  let b := [type, count, 0, 0, 0x78, 0x56, 0x34, 0x12, 0, target, 6, 0, 0, 0, 0, 0, 0, 0, segments, 0,
    0x12, 0, 0, 0, 0x24, 0, 0, 0, 0, 0, 0, 0] ++ rest
  b ++ List.replicate (64 - b.length) 0

/-- A segment of 4 bytes at 0x00300000, in the 8-byte form. -/
def segment4 : List Byte := [0, 0, 0x30, 0, 4, 0, 0, 0]

/-- A command without data to target 3 of bus 0. -/
def plainCommand : List Byte := descriptor 0x01 1 0x03 0 []

/-- The value that a read returned. -/
def readValue : Result → Option Word
  | .next t => some t.env.readData
  | .fault _ | .refused _ => none

/-- A property of the next state. -/
def nextHas (p : State → Bool) : Result → Bool
  | .next t => p t
  | .fault _ | .refused _ => false

/-! ### Ill-formed terms -/

theorem test_wf_refuses_even_offset_as_odd : (Instr.readOdd 0x000A).wf oldRisc = false := by decide
theorem test_wf_refuses_even_write_as_odd : (Instr.writeOdd 0x0008 1).wf oldRisc = false := by decide
theorem test_wf_refuses_odd_as_unmapped : (Instr.accessUnmapped 0x0015 none).wf oldRisc = false := by decide
theorem test_wf_refuses_mapped_as_unmapped : (Instr.accessUnmapped 0x0008 (some 1)).wf oldRisc = false := by decide
theorem test_wf_refuses_risc_register_in_sxp_bank : Instr.readRiscPc.wf oldSxp = false := by decide
theorem test_wf_refuses_hccr_in_sxp_bank : (Instr.hccrSetHostInt 0).wf oldSxp = false := by decide
theorem test_wf_refuses_pins_in_risc_bank : (Instr.readSxpPinsDiff 0 none).wf oldRisc = false := by decide
theorem test_wf_refuses_pins_of_other_bank : (Instr.readSxpPinsDiff 1 none).wf oldSxp = false := by decide
theorem test_wf_refuses_dma_in_risc_bank : (Instr.accessDmaConf0 none).wf ⟨.new, 0, false, tableNums⟩ = false := by decide
theorem test_wf_refuses_named_hccr_command : (Instr.hccrUndefined 7 0).wf oldRisc = false := by decide
theorem test_wf_refuses_undefined_hccr_in_sxp_bank : (Instr.hccrUndefined 8 0).wf oldSxp = false := by decide
theorem test_wf_refuses_known_opcode_as_invalid : (Instr.mboxInvalid 0x0012).wf oldRisc = false := by decide
theorem test_wf_refuses_open_opcode_as_invalid : (Instr.mboxInvalid 0x0099).wf
    { oldRisc with nums := { tableNums with readFour := 0x0099 } } = false := by decide
/-- Open numbers that are not well-formed in either generation: odd, the offset of ICR, of HCCR and of no register in the
switchable window, its last word, SXP_PINS_DIFF odd and outside the window, and the opcode of EXECUTE_IOCB. -/
theorem test_legal_refuses_numbers :
    ([⟨0x15, 0x7A, 0x43⟩, ⟨0x08, 0x7A, 0x43⟩, ⟨0xC0, 0x7A, 0x43⟩, ⟨0x90, 0x7A, 0x43⟩, ⟨0xFE, 0x7A, 0x43⟩, ⟨0x16, 0x7B, 0x43⟩,
      ⟨0x16, 0x80, 0x43⟩, ⟨0x16, 0x7A, 0x12⟩] : List OpenNumbers).all (fun n => !n.legal .old && !n.legal .new) = true := by decide
/-- The DMA window is a bank window of GEN_OLD alone (R122, R123): offsets in it, of a register and of none. -/
theorem test_legal_dma_window :
    ([0x20, 0x3A, 0x6E] : List Word).all (fun p =>
      let n : OpenNumbers := ⟨p, 0x7A, 0x43⟩
      !n.legal .old && n.legal .new) = true := by decide
theorem test_legal_accepts_table_numbers :
    tableNums.legal .old = true ∧ tableNums.legal .new = true ∧ (⟨0x0100, 0x00, 0x44⟩ : OpenNumbers).legal .old = true := by decide
theorem test_wf_refuses_wrong_entry_type :
    (Instr.iocbCmd (.ring 0) (descriptor 0x09 1 3 0 [])).wf oldRisc = false := by decide
theorem test_wf_refuses_short_descriptor : (Instr.iocbMarker (.ring 0) [0x04]).wf oldRisc = false := by decide
theorem test_wf_refuses_known_type_as_unknown :
    (Instr.iocbUnknown (.ring 0) (descriptor 0x04 1 3 0 [])).wf oldRisc = false := by decide
theorem test_wf_refuses_short_unknown : (Instr.iocbUnknown (.ring 0) [0x7E]).wf oldRisc = false := by decide
theorem test_wf_refuses_command_while_programming : Instr.flashAutoselect.wf programming = false := by decide
theorem test_wf_refuses_command_byte_as_data : (Instr.flashProgramData 0xAA).wf oldRisc = false := by decide
theorem test_wf_accepts_command_byte_as_data : (Instr.flashProgramData 0xAA).wf programming = true := by decide

/-! ### Decoding, from the tables of spec/30_encoding.md -/

/-- Each request decodes to the instruction beside it. -/
def decodes (c : DecodeCtx) (l : List (Request × Instr)) : Bool :=
  l.all fun e => decode c e.1 == .ok e.2

theorem test_decode_no_register : decodes oldRisc
    [(.regRead 0x000B, .readOdd 0x000B), (.regWrite 0x0009 0x0001, .writeOdd 0x0009 0x0001),
     (.regRead 0x0014, .accessUnmapped 0x0014 none), (.regWrite 0x0014 0xFFFF, .accessUnmapped 0x0014 (some 0xFFFF))]
    = true := by decide

theorem test_decode_fixed_reads : decodes oldRisc
    [(.regRead 0x0000, .readIdLo), (.regRead 0x0002, .readIdHi), (.regRead 0x0004, .readConf0),
     (.regRead 0x0006, .readConf1), (.regRead 0x0008, .readIcr), (.regRead 0x000A, .readIsr),
     (.regRead 0x000C, .readSema), (.regRead 0x000E, .readNvram), (.regRead 0x0010, .readFlashData),
     (.regRead 0x0012, .readFlashAddr), (.regRead 0x0016, .readPioPort), (.regRead 0x0070, .readMbox0),
     (.regRead 0x0072, .readMbox1), (.regRead 0x0074, .readMbox2), (.regRead 0x0076, .readMbox3),
     (.regRead 0x0078, .readMbox4), (.regRead 0x007A, .readMbox5), (.regRead 0x007C, .readMbox6),
     (.regRead 0x007E, .readMbox7)] = true := by decide

theorem test_decode_fixed_writes : decodes oldRisc
    [(.regWrite 0x0000 1, .writeIdLo 1), (.regWrite 0x0002 2, .writeIdHi 2), (.regWrite 0x0004 3, .writeConf0 3),
     (.regWrite 0x0006 4, .writeConf1 4), (.regWrite 0x0008 5, .writeIcr 5), (.regWrite 0x000A 6, .writeIsr 6),
     (.regWrite 0x000C 7, .writeSema 7), (.regWrite 0x000E 8, .writeNvram 8), (.regWrite 0x0010 9, .writeFlashData 9),
     (.regWrite 0x0012 10, .writeFlashAddr 10), (.regWrite 0x0016 11, .writePioPort 11),
     (.regWrite 0x0070 12, .writeMbox0 12), (.regWrite 0x0072 13, .writeMbox1 13), (.regWrite 0x0074 14, .writeMbox2 14),
     (.regWrite 0x0076 15, .writeMbox3 15), (.regWrite 0x0078 16, .writeMbox4 16), (.regWrite 0x007A 17, .writeMbox5 17),
     (.regWrite 0x007C 18, .writeMbox6 18), (.regWrite 0x007E 19, .writeMbox7 19)] = true := by decide

theorem test_decode_risc_bank : decodes oldRisc
    [(.regRead 0x00A0, .readRiscPsr), (.regWrite 0x00A0 1, .writeRiscPsr 1), (.regRead 0x00AC, .readRiscPc),
     (.regWrite 0x00AC 2, .writeRiscPc 2), (.regRead 0x00AE, .readRiscMtr), (.regWrite 0x00AE 3, .writeRiscMtr 3),
     (.regRead 0x00CC, .readGpioData), (.regWrite 0x00CC 4, .writeGpioData 4), (.regRead 0x00CE, .readGpioEnable),
     (.regWrite 0x00CE 5, .writeGpioEnable 5), (.regRead 0x00C0, .readHccr)] = true := by decide

theorem test_decode_hccr_commands : decodes oldRisc
    [(.regWrite 0x00C0 0x0FFF, .hccrNop 0xFFF), (.regWrite 0x00C0 0x1001, .hccrResetRisc 0x001),
     (.regWrite 0x00C0 0x2002, .hccrPauseRisc 0x002), (.regWrite 0x00C0 0x3003, .hccrReleaseRisc 0x003),
     (.regWrite 0x00C0 0x4004, .hccrSingleStep 0x004), (.regWrite 0x00C0 0x5005, .hccrSetHostInt 0x005),
     (.regWrite 0x00C0 0x6006, .hccrClearHostInt 0x006), (.regWrite 0x00C0 0x7007, .hccrClearRiscInt 0x007),
     (.regWrite 0x00C0 0x8000, .hccrUndefined 8 0), (.regWrite 0x00C0 0xF123, .hccrUndefined 15 0x123)] = true := by
  decide

theorem test_decode_dma_window : decodes oldSxp
    [(.regRead 0x0020, .accessDmaConf0 none), (.regWrite 0x0022 0xBEEF, .accessDmaControl0 (some 0xBEEF)),
     (.regRead 0x0024, .accessDmaStatus0 none), (.regRead 0x0026, .accessDmaFifo0 none),
     (.regRead 0x002C, .accessDmaAddr00 none), (.regWrite 0x002E 1, .accessDmaAddr01 (some 1)),
     (.regRead 0x0030, .accessDmaAddr02 none), (.regRead 0x0032, .accessDmaAddr03 none),
     (.regWrite 0x0040 7, .accessDmaConf1 (some 7)), (.regRead 0x0042, .accessDmaControl1 none),
     (.regWrite 0x0044 1, .accessDmaStatus1 (some 1)), (.regRead 0x0046, .accessDmaFifo1 none),
     (.regRead 0x004C, .accessDmaAddr10 none), (.regRead 0x004E, .accessDmaAddr11 none),
     (.regRead 0x0050, .accessDmaAddr12 none), (.regWrite 0x0052 9, .accessDmaAddr13 (some 9))] = true := by decide

theorem test_decode_other_banks :
    decodes oldSxp [(.regRead 0x00FA, .readSxpPinsDiff 0 none), (.regRead 0x00C0, .accessUnmapped 0x00C0 none)] = true
      ∧ decodes ⟨.new, 0x0200, false, tableNums⟩ [(.regWrite 0x00FA 1, .readSxpPinsDiff 1 (some 1))] = true
      ∧ decodes ⟨.new, 0x0300, false, tableNums⟩ [(.regRead 0x0080, .accessDmaConf0 none),
          (.regRead 0x0020, .accessUnmapped 0x0020 none)] = true := by decide

theorem test_decode_mailbox_low : decodes oldRisc
    [(.mailbox 0x00, .mboxNoOp), (.mailbox 0x01, .mboxLoadRam), (.mailbox 0x02, .mboxExecFirmware),
     (.mailbox 0x03, .mboxDumpRam), (.mailbox 0x04, .mboxWriteRamWord), (.mailbox 0x05, .mboxReadRamWord),
     (.mailbox 0x06, .mboxMailboxRegTest), (.mailbox 0x07, .mboxVerifyChecksum), (.mailbox 0x08, .mboxAboutFirmware),
     (.mailbox 0x10, .mboxInitReqQueue), (.mailbox 0x11, .mboxInitResQueue), (.mailbox 0x12, .mboxExecuteIocb),
     (.mailbox 0x13, .mboxWakeUp), (.mailbox 0x14, .mboxStopFirmware), (.mailbox 0x15, .mboxAbort),
     (.mailbox 0x16, .mboxAbortDevice), (.mailbox 0x17, .mboxAbortTarget), (.mailbox 0x18, .mboxBusReset),
     (.mailbox 0x19, .mboxStopQueue), (.mailbox 0x1A, .mboxStartQueue), (.mailbox 0x1B, .mboxSingleStepQueue),
     (.mailbox 0x1C, .mboxAbortQueue), (.mailbox 0x1D, .mboxGetDevQueueStatus), (.mailbox 0x1F, .mboxGetFirmwareStatus)]
    = true := by decide

theorem test_decode_mailbox_parameters : decodes oldRisc
    [(.mailbox 0x20, .mboxGetInitScsiId), (.mailbox 0x21, .mboxGetSelectTimeout), (.mailbox 0x22, .mboxGetRetryCount),
     (.mailbox 0x23, .mboxGetTagAgeLimit), (.mailbox 0x24, .mboxGetClockRate), (.mailbox 0x25, .mboxGetActNegState),
     (.mailbox 0x26, .mboxGetAsyncDataSetupTime), (.mailbox 0x27, .mboxGetPciParams),
     (.mailbox 0x28, .mboxGetTargetParams), (.mailbox 0x29, .mboxGetDevQueueParams),
     (.mailbox 0x2A, .mboxGetResetDelayParams), (.mailbox 0x30, .mboxSetInitScsiId),
     (.mailbox 0x31, .mboxSetSelectTimeout), (.mailbox 0x32, .mboxSetRetryCount), (.mailbox 0x33, .mboxSetTagAgeLimit),
     (.mailbox 0x34, .mboxSetClockRate), (.mailbox 0x35, .mboxSetActNegState),
     (.mailbox 0x36, .mboxSetAsyncDataSetupTime), (.mailbox 0x37, .mboxSetPciParams),
     (.mailbox 0x38, .mboxSetTargetParams), (.mailbox 0x39, .mboxSetDevQueueParams),
     (.mailbox 0x3A, .mboxSetResetDelayParams)] = true := by decide

theorem test_decode_mailbox_high : decodes oldRisc
    [(.mailbox 0x40, .mboxReturnBiosBlockAddr), (.mailbox 0x41, .mboxWriteFourRamWords),
     (.mailbox 0x42, .mboxExecuteBiosIocb), (.mailbox 0x43, .mboxReadFourRamWords),
     (.mailbox 0x4A, .mboxSetFirmwareFeatures), (.mailbox 0x4B, .mboxGetFirmwareFeatures),
     (.mailbox 0x50, .mboxLoadRamA64), (.mailbox 0x51, .mboxDumpRamA64), (.mailbox 0x52, .mboxInitReqQueueA64),
     (.mailbox 0x53, .mboxInitResQueueA64), (.mailbox 0x54, .mboxExecuteIocbA64), (.mailbox 0x7F, .mboxInvalid 0x7F),
     (.mailbox 0x4000, .mboxInvalid 0x4000)] = true := by decide

theorem test_decode_descriptors : decodes oldRisc
    ([(0x01, Instr.iocbCmd), (0x02, .iocbCont), (0x03, .iocbResp), (0x04, .iocbMarker), (0x09, .iocbCmd64),
      (0x0A, .iocbCont64), (0x7E, .iocbUnknown)].map fun e =>
        (.iocb (.ring 3) (descriptor e.1 1 3 0 []), e.2 (.ring 3) (descriptor e.1 1 3 0 []))) = true := by decide

theorem test_decode_flash :
    decodes oldRisc
      [(.flashWrite 0xAA, .flashUnlockAa), (.flashWrite 0x55, .flashUnlock55), (.flashWrite 0x90, .flashAutoselect),
       (.flashWrite 0xA0, .flashProgram), (.flashWrite 0x80, .flashEraseSetup), (.flashWrite 0x10, .flashChipErase),
       (.flashWrite 0x30, .flashBlockErase), (.flashWrite 0xF0, .flashReadArray), (.flashWrite 0x0F, .flashProgramData 0x0F),
       (.flashRead, .flashRead)] = true
      ∧ decodes programming [(.flashWrite 0xF0, .flashProgramData 0xF0)] = true := by decide

/-- The open numbers are the card's own: on another card they decode elsewhere. -/
theorem test_decode_open_numbers :
    let c : DecodeCtx := { oldRisc with nums := ⟨0x001A, 0x0010, 0x0044⟩ }
    decodes c [(.regRead 0x001A, .readPioPort), (.regRead 0x0016, .accessUnmapped 0x0016 none),
        (.mailbox 0x0044, .mboxReadFourRamWords), (.mailbox 0x0043, .mboxInvalid 0x0043)] = true
      ∧ decodes { c with conf1 := 0x0008 } [(.regRead 0x0090, .readSxpPinsDiff 0 none)] = true := by decide

theorem test_decode_table_words :
    decodeTableWord 8 0x0A = some .readIsr ∧ decodeTableWord 8 0x0B = some (.readOdd 0x0B)
      ∧ decodeTableWord 8 0x90 = some .flashAutoselect ∧ decodeTableWord 16 0x0010 = some .mboxInitReqQueue
      ∧ decodeTableWord 16 0x7000 = some (.hccrClearRiscInt 0) := by decide

/-! ### Registers (spec/95_test_vectors.md §2) -/

theorem test_read_odd_offset : readValue (exec (.readOdd 0x000B) idle) = some 0xFFFF := by decide -- RD1
theorem test_odd_write_does_not_reset : exec (.writeOdd 0x0009 0x0001) (rings 1) = .next (rings 1) := by rfl -- RD4
theorem test_read_unmapped : readValue (exec (.accessUnmapped 0x0014 none) idle) = some 0x0000 := by decide -- RD6

/-- RD10, RD11: the doorbell's offset reaches nothing with the SXP bank selected. -/
theorem test_doorbell_in_sxp_bank : nextHas (fun t => !t.sxp.mboxCmdPending && t.sxp.state == .idle)
    (step (events [.write 0x00C0 0x5000] { idle with reg := { idle.reg with conf1 := 0x0008 } })) = true := by decide

theorem test_hccr_paused_bit : readValue (exec .readHccr { idle with reg := { idle.reg with riscPaused := true } })
    = some 0x0020 := by decide -- RD13

theorem test_sema_write_masks : nextHas (fun t => t.reg.sema == 0x0003) (exec (.writeSema 0xFFFF) idle) = true := by
  decide -- RD22
theorem test_sema_write_zero_keeps_status : nextHas (fun t => t.reg.sema == 0x0002)
    (exec (.writeSema 0) { idle with reg := { idle.reg with sema := 0x0003 } }) = true := by decide -- RD23
theorem test_sema_write_of_no_meaningful_bit : nextHas (fun t => t.reg.sema == 0x0000)
    (exec (.writeSema 4) { idle with reg := { idle.reg with sema := 0x0002 } }) = true := by decide -- RD24

theorem test_icr_stores_enables : nextHas (fun t => t.reg.icr == 0xFFFE) (exec (.writeIcr 0xFFFE) idle) = true := by
  decide -- RD27
theorem test_icr_soft_reset_drops_enables : nextHas (fun t => t.reg.icr == 0 && t.reg.sema == 0)
    (exec (.writeIcr 0x0007) { idle with reg := { idle.reg with sema := 0x0003 } }) = true := by decide -- RD28

theorem test_mailbox_read_is_output : readValue (exec .readMbox0 (mailboxes (.replicate 8 0x1234) idle)) = some 0 := by
  decide -- RD30
theorem test_cursor_write_without_rings : nextHas
    (fun t => t.reg.mbin[4] == 3 && t.env.lastSuspend == some .nothingToDo && !t.sxp.running)
    (exec (.writeMbox4 3) idle) = true := by decide -- RD31

/-- RD36: a word of the PIO buffer, and the last one, which frees it. -/
theorem test_pio_words :
    readValue (exec .readPioPort (engine (fun x => { x with pioBuf := some ⟨[0x1234, 0x5678], 0⟩ }) idle)) = some 0x1234
      ∧ nextHas (fun t => t.sxp.pioBuf == none && t.env.readData == 0x5678)
        (exec .readPioPort (engine (fun x => { x with pioBuf := some ⟨[0x1234, 0x5678], 1⟩ }) idle)) = true := by decide

/-- RD37, RD38: the interrupt line follows the enables. -/
theorem test_interrupt_line :
    nextHas (fun t => irq t.reg) (exec (.writeIcr 0x0006) { idle with reg := { idle.reg with isr := 0x0004 } }) = true
      ∧ nextHas (fun t => irq t.reg) (exec (.writeIcr 0x0002) { idle with reg := { idle.reg with isr := 0x0004 } }) = false := by decide

/-! ### Mailbox commands (§3): the words staged, and what the command changed -/

/-- The words and the mask that a command staged, and its state. -/
def staged (m : Vector Word 8) (i : Instr) (s : State) (p : State → Bool) : Bool :=
  nextHas (fun t => t.sxp.state == .mboxWaitTimer && t.sxp.timerArmed && p t) (exec i (mailboxes m s))

theorem test_no_op : staged (.replicate 8 0) .mboxNoOp idle
    (fun t => t.sxp.stageOut[0] == 0x4000 && t.sxp.mboutMask == 0x01) = true := by decide -- M1

/-- Host memory with four bytes at 0x00300000, and firmware memory of a few words. -/
def loaded : State :=
  { dmaAnswers [true] idle with
    fw := [(0, 1), (1, 2), (2, 0xFFF9), (3, 4), (0x0200, 1), (0x0201, 2), (0x0202, 3), (0x0203, 4), (0x1000, 0xBEEF)]
    env := { (dmaAnswers [true] idle).env with
      hostMem := [(0x00300000, 0x34), (0x00300001, 0x12), (0x00300002, 0x78), (0x00300003, 0x56)] } }

theorem test_load_ram : staged #v[1, 0x1000, 0x0030, 0, 2, 0, 0, 0] .mboxLoadRam loaded
    (fun t => t.sxp.stageOut[0] == 0x4000 && fwRead t 0x1000 == 0x1234 && fwRead t 0x1001 == 0x5678) = true := by
  decide -- M2
theorem test_load_ram_past_end : staged #v[1, 0xFFFF, 0x0030, 0, 2, 0, 0, 0] .mboxLoadRam loaded
    (fun t => t.sxp.stageOut[0] == 0x4006 && t.fw == loaded.fw) = true := by decide -- M3
theorem test_dump_ram : staged #v[3, 0x1000, 0x0040, 0, 1, 0, 0, 0] .mboxDumpRam loaded
    (fun t => readBytes t.env.hostMem 0x00400000 2 == [0xEF, 0xBE]) = true := by decide -- M7
theorem test_write_ram_word : staged #v[4, 0x0100, 0xCAFE, 0, 0, 0, 0, 0] .mboxWriteRamWord loaded
    (fun t => fwRead t 0x0100 == 0xCAFE) = true := by decide -- M8
theorem test_checksum_zero : staged #v[7, 0, 0, 0, 0, 0, 0, 0] .mboxVerifyChecksum loaded
    (fun t => t.sxp.stageOut[0] == 0x4000 && t.sxp.stageOut[2] == 0) = true := by decide -- M14
theorem test_checksum_failed : staged #v[7, 0x0200, 0, 0, 0, 0, 0, 0] .mboxVerifyChecksum loaded
    (fun t => t.sxp.stageOut[0] == 0x4003 && t.sxp.stageOut[2] == 0x000A) = true := by decide -- M15
theorem test_init_request_ring : staged #v[0x10, 4, 0x0010, 0, 0, 0, 0, 0] .mboxInitReqQueue idle
    (fun t => t.sxp.reqBase == 0x00100000 && t.sxp.reqLen == 4 && t.sxp.reqInit && t.sxp.mboutMask == 0x11) = true := by
  decide -- M21
theorem test_init_request_ring_64 : staged #v[0x52, 4, 0x0010, 0, 0, 0, 0x0001, 0] .mboxInitReqQueueA64 idle
    (fun t => t.sxp.reqBase == 0x0001000000100000) = true := by decide -- M25
theorem test_set_target_params : staged #v[0x38, 0x0300, 0x0400, 0x080C, 0, 0, 0, 0] .mboxSetTargetParams idle
    (fun t => targetParam t.sxp 0 3 == ⟨0x0400, 0x0C, 0x08, 0, 0⟩) = true := by decide -- M44
theorem test_bus_reset : staged #v[0x18, 0, 0, 0, 0, 0, 0, 0] .mboxBusReset
    (answers ⟨[], (List.range 16).map (fun k => k == 3 || k == 5), [], [], [], 0, 0⟩ idle)
    (fun t => t.env.calls == [.targetReset 5, .targetReset 3]) = true := by decide -- M37

/-! ### Descriptors (§4) and flash (§5) -/

/-- The response that exec of a descriptor leaves waiting. -/
def answered (i : Instr) (s : State) (p : Response → Bool) : Bool :=
  nextHas (fun t => t.sxp.timerArmed && t.sxp.pktResp.any p) (exec i s)

theorem test_selection_timeout : answered (.iocbCmd (.ring 0) plainCommand) (answers ⟨[], [false], [], [], [], 0, 0⟩ (rings 1))
    (fun r => r.completionStatus == 1 && r.statusFlags == 0x0040 && r.stateFlags == 0x0100) = true := by decide -- S6
theorem test_marker : answered (.iocbMarker (.ring 0) (descriptor 0x04 1 3 0 [])) (rings 1)
    (fun r => r.completionStatus == 8 && r.statusFlags == 0x0020) = true := by decide -- S1
theorem test_data_underrun : answered (.iocbCmd (.ring 0) (descriptor 0x01 1 0x03 1 segment4))
    (answers ⟨[true], [true], [⟨.dataIn [1, 2], 0, 1⟩], [], [], 0, 0⟩ (rings 1))
    (fun r => r.completionStatus == 0x0015 && r.residual == 2 && r.stateFlags == 0x5F00) = true := by decide -- R423
theorem test_status_alone_with_a_segment : answered (.iocbCmd (.ring 0) (descriptor 0x01 1 0x03 1 [0, 0, 0x30, 0, 0, 2, 0, 0]))
    (answers ⟨[], [true], [⟨.statusOnly, 0, 1⟩], [], [], 0, 0⟩ (rings 1))
    (fun r => r.completionStatus == 0x0015 && r.residual == 512 && r.stateFlags == 0x5700) = true := by decide -- S12

theorem test_program_would_set_a_bit : nextHas
    (fun t => t.flash.status == 0x20 && t.flash.array == [(0x0100, 0x0F)] && t.flash.mode == .programError)
    (exec (.flashProgramData 0xFF) (flash (fun f => { f with mode := .programSetup, array := [(0x0100, 0x0F)] })
      { idle with
        reg := { idle.reg with flashAddr := 0x0100 }, inst := { idle.inst with flashSize := .k64 } })) = true := by decide -- F13
theorem test_protected_block_survives_erase : nextHas (fun t => t.flash.array == [(0xC000, 2)] && t.flash.mode == .erasing)
    (step (events [.fire .eraseAccept] (flash (fun f => { f with
      mode := .eraseAccept, acceptArmed := true, array := [(0x8000, 1), (0xC000, 2)]
      prot := #v[false, false, false, true, false, false, false, false]
      pending := #v[false, false, true, true, false, false, false, false] }) idle))) = true := by decide -- F23
/-- The target ids in range are the card's (R11, R384). -/
theorem test_target_count_is_the_cards :
    btOk { Inst.card with numTargets := 4 } 0x0300 = true ∧ btOk { Inst.card with numTargets := 4 } 0x0400 = false := by decide
/-- A free NVRAM answer moves its own count alone (R77). -/
theorem test_nvram_draws_apart : nextHas (fun t => t.env.oracle == { idle.env.oracle with nvramDraws := 1 })
    (exec .readNvram idle) = true := by decide
theorem test_status_toggles : readValue (exec .flashRead (flash (fun f => { f with mode := .erasing, status := 0x08 }) idle))
    = some 0x0048 := by decide -- R511

/-- A word of the table is placed so that the next step runs it. -/
theorem test_fetch_word : nextHas (fun t => t.sxp.stageOut[0] == 0x4006)
    (step (idle.withFetchWord 16 0x0010)) = true := by decide

/-! ### States and operands that meet the hypotheses of each statement: one theorem for each clause -/

/-- The engine busy, waiting for the timer of a mailbox result. -/
def waiting : State :=
  engine (fun x => { x with state := .mboxWaitTimer, timerArmed := true, postKind := some .mboxResult }) idle

/-- The engine waiting for the semaphore, which the host holds. -/
def locked : State :=
  engine (fun x => { x with state := .acquireMboxSemaphore, postKind := some .mboxResult })
    { idle with reg := { idle.reg with sema := 0x0003 } }

/-- A 64-bit command to target 3 with one segment of 4 bytes at 0x00300000. -/
def command64 : List Byte := descriptor 0x09 1 0x03 1 ([0, 0, 0, 0, 0, 0, 0, 0, 0, 0, 0x30, 0, 0, 0, 0, 0, 4, 0, 0, 0])

/-- A 32-bit command to target 3 with one segment of 4 bytes at 0x00300000. -/
def command32 : List Byte := descriptor 0x01 1 0x03 1 segment4

/-- A response of a clean command. -/
def cleanAnswer : Response := newResp plainCommand

theorem test_witness_DecodeEncodeRoundTrip :
    oldSxp.nums.legal oldSxp.gen = true ∧ (Instr.accessUnmapped 0xFFFE none).wf oldSxp = true := by decide
theorem test_witness_EncodeDecodeRoundTrip :
    decode oldRisc (.regWrite 0x00C0 0xF123) = .ok (.hccrUndefined 0xF 0x123) := by decide

theorem test_witness_StepRunsDecodedInstruction_event :
    let s := events [.write 0x0078 0x0001] idle
    s.faulted = none ∧ s.sxp.running = false ∧ s.env.script = .write 0x0078 0x0001 :: []
      ∧ busRequest (.write 0x0078 0x0001) = some (.regWrite 0x0078 0x0001)
      ∧ decode (decodeCtx s) (.regWrite 0x0078 0x0001) = .ok (.writeMbox4 0x0001) := by decide
theorem test_witness_StepRunsDecodedInstruction_mailbox :
    let s := engine (fun x => { x with running := true, mboxCmdPending := true }) idle
    s.faulted = none ∧ s.sxp.running = true ∧ s.sxp.state = .idle ∧ s.sxp.mboxCmdPending = true
      ∧ decode (decodeCtx s) (.mailbox s.reg.mbin[0]) = .ok .mboxNoOp := by decide
theorem test_witness_StepRunsDecodedInstruction_descriptor :
    let s := engine (fun x => { x with running := true }) (dmaAnswers [true] (rings 1))
    ∃ o b t i, s.faulted = none ∧ s.sxp.running = true ∧ s.sxp.state = .idle ∧ s.sxp.mboxCmdPending = false
      ∧ fetch s = .descriptor o b t ∧ decode (decodeCtx t) (.iocb o b) = .ok i :=
  ⟨_, _, _, _, rfl, rfl, rfl, rfl, rfl, rfl⟩
theorem test_witness_StepRunsDecodedInstruction_store :
    let s := events [.store 0xFFFFFFFFFFFFFFFF [1, 2]] idle
    s.faulted = none ∧ s.sxp.running = false ∧ s.env.script = .store 0xFFFFFFFFFFFFFFFF [1, 2] :: [] := by decide
theorem test_witness_StepRunsDecodedInstruction_unarmed :
    let s := events [.fire .flashDone] idle
    s.faulted = none ∧ s.sxp.running = false ∧ s.env.script = .fire .flashDone :: [] ∧ timerArmed .flashDone s = false := by
  decide
theorem test_witness_StepRunsDecodedInstruction_reset :
    let s := events [.pciReset] idle
    s.faulted = none ∧ s.sxp.running = false ∧ s.env.script = .pciReset :: [] := by decide

theorem test_witness_DoorbellRunsMailboxCommand : idle.sxp.state = .idle ∧ idle.sxp.running = false := by decide
theorem test_witness_EngineRunsFetchedDescriptor :
    let s := engine (fun x => { x with running := true, directReq := some (.exec 0x00300000 false) }) (dmaAnswers [true] idle)
    ∃ t o b, s.sxp.state = .idle ∧ s.sxp.running = true ∧ s.sxp.mboxCmdPending = false ∧ fetch s = .descriptor o b t :=
  ⟨_, _, _, rfl, rfl, rfl, rfl⟩

theorem test_witness_IcrWriteAndSoftReset :
    (0xFFFE : Word) &&& Param.icrSoftReset = 0 ∧ (0x0001 : Word) &&& Param.icrSoftReset ≠ 0 := by decide
theorem test_witness_SemaphoreWriteStores_idle : idle.sxp.state ≠ .acquireMboxSemaphore := by decide
theorem test_witness_SemaphoreWriteStores_held :
    locked.sxp.state = .acquireMboxSemaphore
      ∧ ((0xFFFD : Word) &&& Param.semaMask) &&& Param.semaLock = Param.semaLock := by decide
theorem test_witness_SemaphoreReleasePosts :
    let s := locked
    (s.reg.sema &&& Param.semaStatus) &&& Param.semaLock = 0 ∧ ((4 : Word) &&& Param.semaMask) &&& Param.semaLock = 0
      ∧ s.sxp.state = .acquireMboxSemaphore ∧ s.sxp.running = false ∧ s.sxp.timerArmed = false
      ∧ s.sxp.postKind = some .mboxResult := by decide
/-- A direct request's posting while the host holds the semaphore. -/
def lockedDirect (s : State) : State :=
  engine (fun x => { x with state := .acquireMboxSemaphore, postKind := some .mboxAndRing, pktResp := some cleanAnswer })
    { s with reg := { s.reg with sema := 0x0003 } }
theorem test_witness_SemaphoreReleasePosts_noRing :
    let s := lockedDirect idle
    s.sxp.state = .acquireMboxSemaphore ∧ s.sxp.running = false ∧ s.sxp.timerArmed = false
      ∧ s.sxp.postKind = some .mboxAndRing ∧ s.sxp.pktResp.isSome = true ∧ s.sxp.respInit = false := by decide
/-- The response ring is full: the producer 3 of four is one behind the host's consumer 0. -/
theorem test_witness_SemaphoreReleasePosts_ring :
    let s := engine (fun x => { x with respIn := 3, reqOut := 1 }) (lockedDirect (dmaAnswers [true] (rings 1)))
    s.sxp.state = .acquireMboxSemaphore ∧ s.sxp.running = false ∧ s.sxp.timerArmed = false
      ∧ s.sxp.postKind = some .mboxAndRing ∧ s.sxp.pktResp = some cleanAnswer ∧ s.sxp.respInit = true
      ∧ memoriesWf s = true ∧ s.env.oracle.dma = true :: [] := by decide
theorem test_witness_SemaphoreReleasePosts_fast :
    let s := engine (fun x => { x with postKind := some .fastPost }) locked
    s.sxp.state = .acquireMboxSemaphore ∧ s.sxp.running = false ∧ s.sxp.timerArmed = false
      ∧ s.sxp.postKind = some .fastPost := by decide
theorem test_witness_MailboxWritesStore : waiting.sxp.state ≠ .idle := by decide

theorem test_witness_CursorWriteStartsRing_inactive :
    idle.sxp.state = .idle ∧ idle.sxp.running = false ∧ idle.sxp.mboxCmdPending = false ∧ idle.sxp.directReq = none
      ∧ (idle.sxp.respInit = true → 0 < idle.sxp.respLen.toNat) ∧ idle.sxp.reqInit = false := by decide
/-- A producer of 4 is the consumer 0 of a ring of four: the ring is empty. -/
theorem test_witness_CursorWriteStartsRing_empty :
    let s := rings 1
    s.sxp.state = .idle ∧ s.sxp.running = false ∧ s.sxp.mboxCmdPending = false ∧ s.sxp.directReq = none
      ∧ 0 < s.sxp.respLen.toNat ∧ s.sxp.reqInit = true ∧ s.sxp.respInit = true
      ∧ (4 : Word).toNat % s.sxp.reqLen.toNat = s.sxp.reqOut.toNat := by decide
theorem test_witness_CursorWriteStartsRing_full :
    let s := engine (fun x => { x with respIn := 3 }) (rings 0)
    s.sxp.state = .idle ∧ s.sxp.running = false ∧ s.sxp.mboxCmdPending = false ∧ s.sxp.directReq = none
      ∧ 0 < s.sxp.respLen.toNat ∧ s.sxp.reqInit = true ∧ s.sxp.respInit = true
      ∧ (1 : Word).toNat % s.sxp.reqLen.toNat ≠ s.sxp.reqOut.toNat
      ∧ (s.sxp.respIn.toNat + 1) % s.sxp.respLen.toNat = s.reg.mbin[5].toNat % s.sxp.respLen.toNat := by decide
/-- A producer of 5 is slot 1 of a ring of four. -/
theorem test_witness_CursorWriteStartsRing_dispatch :
    let s := dmaAnswers [true] (rings 0)
    s.sxp.state = .idle ∧ s.sxp.running = false ∧ s.sxp.mboxCmdPending = false ∧ s.sxp.directReq = none
      ∧ 0 < s.sxp.respLen.toNat ∧ s.sxp.reqInit = true ∧ s.sxp.respInit = true
      ∧ (5 : Word).toNat % s.sxp.reqLen.toNat ≠ s.sxp.reqOut.toNat
      ∧ (s.sxp.respIn.toNat + 1) % s.sxp.respLen.toNat ≠ s.reg.mbin[5].toNat % s.sxp.respLen.toNat
      ∧ s.sxp.reqOut ∉ s.sxp.abortQ ∧ s.env.oracle.dma = true :: [] := by decide

theorem test_witness_HccrCommands : waiting.sxp.state ≠ .idle := by decide
theorem test_witness_NvramAndPioPorts :
    (answers ⟨[], [], [], [], [0x1234], 0, 0⟩ idle).env.oracle.nvram = 0x1234 :: [] ∧ idle.sxp.pioBuf = none := by decide
/-- A word that is not the last, and the last one. -/
theorem test_witness_NvramAndPioPorts_words :
    ((⟨[1, 2], 0⟩ : PioBuf).idx < (⟨[1, 2], 0⟩ : PioBuf).words.length
        ∧ (⟨[1, 2], 0⟩ : PioBuf).idx + 1 ≠ (⟨[1, 2], 0⟩ : PioBuf).words.length)
      ∧ (⟨[1, 2], 1⟩ : PioBuf).idx < (⟨[1, 2], 1⟩ : PioBuf).words.length
        ∧ (⟨[1, 2], 1⟩ : PioBuf).idx + 1 = (⟨[1, 2], 1⟩ : PioBuf).words.length := by decide

theorem test_witness_BankSelectedAtAccess_risc :
    let s := events [.write 0x00C0 0x5000] idle
    s.faulted = none ∧ s.sxp.running = false ∧ s.env.script = .write 0x00C0 0x5000 :: []
      ∧ s.inst.nums.pioPort ≠ 0x00C0 ∧ s.inst.gen = .old
      ∧ s.reg.conf1.getLsbD 3 = false := by decide
theorem test_witness_BankSelectedAtAccess_other :
    let s := events [.write 0x00C0 0x5000] { idle with
      inst := { idle.inst with gen := .new }, reg := { idle.reg with conf1 := 0x0100 } }
    s.faulted = none ∧ s.sxp.running = false ∧ s.env.script = .write 0x00C0 0x5000 :: []
      ∧ s.inst.nums.pioPort ≠ 0x00C0 ∧ s.inst.gen = .new
      ∧ s.reg.conf1.extractLsb' 8 2 ≠ 0 := by decide

theorem test_witness_StoredRegisterReadsBack :
    let s := events [.write 0x0052 0xBEEF, .read 0x0052] idle
    s.faulted = none ∧ s.sxp.running = false ∧ (storedValue s.reg (.dmaAddr 1 3)).isSome = true
      ∧ resolve (decodeCtx s) (regOffset s.inst.gen s.inst.nums (.dmaAddr 1 3)) = some (.dmaAddr 1 3)
      ∧ s.env.script = .write (regOffset s.inst.gen s.inst.nums (.dmaAddr 1 3)) 0xBEEF
          :: .read (regOffset s.inst.gen s.inst.nums (.dmaAddr 1 3)) :: [] := by decide

/-- The last target of the one bus. -/
theorem test_witness_CommandsWithoutEffect : btOk Inst.card 0x0FFF = true := by decide
/-- The last address whose four words are in range, and the first that is not. -/
theorem test_witness_FirmwareWordCommands :
    memoriesWf loaded = true ∧ (0xFFFC : Word).toNat + 4 ≤ 0x10000 ∧ 0x10000 < (0xFFFD : Word).toNat + 4 := by decide
/-- A last word in range, and no words. -/
theorem test_witness_LoadRamCommands :
    memoriesWf loaded = true ∧ loaded.env.oracle.dma = true :: [] ∧ 0 < (1 : Word).toNat
      ∧ (0xFFFF : Word).toNat + (1 : Word).toNat ≤ 0x10000 ∧ (0 : Word).toNat = 0 := by decide
theorem test_witness_DumpRamCommands :
    let s := mailboxes #v[3, 0xFFFE, 0xFFFF, 0xFFFF, 2, 0, 0, 0] loaded
    memoriesWf s = true ∧ 0 < s.reg.mbin[4].toNat ∧ s.reg.mbin[1].toNat + s.reg.mbin[4].toNat ≤ 0x10000
      ∧ s.env.oracle.dma = true :: [] := by decide
theorem test_witness_BlockTransferFailures :
    let s := mailboxes #v[1, 0xFFFF, 0, 0, 1, 0, 0, 0] (dmaAnswers [false] idle)
    0x10000 < (0xFFFF : Word).toNat + (2 : Word).toNat
      ∧ s.reg.mbin[1].toNat + s.reg.mbin[4].toNat ≤ 0x10000 ∧ s.reg.mbin[4] ≠ 0 ∧ s.env.oracle.dma = false :: [] := by
  decide
/-- Four words from 0, and a length past the end of memory. -/
theorem test_witness_VerifyChecksumCommand :
    (0 : Word).toNat + (fwRead loaded (0 + Param.checksumLenOffset)).toNat ≤ 0x10000
      ∧ 0x10000 < (0xFFF0 : Word).toNat
          + (fwRead { loaded with fw := [(0xFFF3, 0x0020)] } (0xFFF0 + Param.checksumLenOffset)).toNat := by decide
theorem test_witness_ExecuteIocbHandsOff :
    let s := mailboxes #v[0x54, 64, 0x0030, 0, 0, 0, 0, 0] (dmaAnswers [true] idle)
    s.sxp.state = .idle ∧ s.env.oracle.dma = true :: [] ∧ s.reg.mbin[1] = 64 := by decide

/-- Two slots pending, the last and the first of the ring, each with a command to target 3; the second is marked already. -/
def pending : State :=
  engine (fun x => { x with reqOut := 3, reqBase := 0x00100000 - 192, abortQ := [0] }) <|
    mailboxes #v[0x15, 0x0300, 0x1234, 0x5678, 5, 0, 0, 0]
      { rings 0 with env := { (rings 0).env with
          hostMem := writeBytes (writeBytes [] 0x00100000 plainCommand) (0x00100000 - 192) plainCommand } }

/-- Every pending slot is read, or the second read fails. -/
theorem test_witness_AbortMarksPendingSlot :
    let s := pending
    btOk s.inst s.reg.mbin[1] = true ∧ s.sxp.reqInit = true ∧ s.sxp.respInit = true ∧ ringsWf s.sxp = true
      ∧ (s.reg.mbin[4].toNat % 4 + 4 - s.sxp.reqOut.toNat) % 4 = 2 ∧ s.sxp.reqLen.toNat = 4
      ∧ (dmaAnswers [true, true] s).env.oracle.dma = List.replicate 2 true ++ []
      ∧ (dmaAnswers [true, false] s).env.oracle.dma = List.replicate 1 true ++ false :: [] := by decide
/-- Both entries match the handle of the command, and the queue holds slot 0 alone. -/
theorem test_abort_finds_unmarked_slots :
    (([3, 0] : List Word).filter fun k =>
      !pending.sxp.abortQ.contains k
        && le32 (readBytes pending.env.hostMem (pending.sxp.reqBase + 64 * k.zeroExtend 64) 64) 4 == 0x12345678) = [3] := by
  decide
theorem test_witness_AbortMarksOnlyMatching :
    btOk idle.inst (0x0F00 : Word) = true ∧ ringsWf idle.sxp = true ∧ idle.sxp.reqInit = false
      ∧ btOk pending.inst pending.reg.mbin[1] = true ∧ ringsWf pending.sxp = true
      ∧ pending.sxp.reqInit = true ∧ pending.sxp.respInit = true := by decide
theorem test_witness_AbortMarksOnlyMatching_bound : pending.sxp.abortQ.length ≤ Config.abortQLen := Nat.succ_le_succ (Nat.zero_le _)

theorem test_witness_BusResetCommand_targets :
    let s := answers ⟨[], List.replicate 15 false ++ [true], [], [], [], 0, 0⟩ idle
    s.reg.mbin[2] = 0 ∧ (List.replicate 15 false ++ [true]).length = s.inst.numTargets
      ∧ s.env.oracle.present = (List.replicate 15 false ++ [true]) ++ [] := by decide
theorem test_witness_BusResetCommand_other :
    let s := mailboxes #v[0x18, 0, 1, 0, 0, 0, 0, 0] { idle with inst := { idle.inst with buses := .two } }
    s.reg.mbin[2] = 1 ∧ s.inst.buses = .two ∧ numBuses .one ≤ s.reg.mbin[2].toNat ∧ numBuses .two ≤ (2 : Word).toNat := by
  decide

theorem test_witness_TargetParameterCommands : btOk { Inst.card with buses := .two } 0x8F00 = true := by decide
theorem test_witness_ParameterRoundTrips_bus :
    let s := mailboxes #v[0x30, 7, 0, 0, 0, 0, 0, 0] idle
    ∃ t, exec .mboxSetInitScsiId s = .next t ∧ t.inst = s.inst := ⟨_, rfl, rfl⟩
theorem test_witness_ParameterRoundTrips_chip :
    let s := mailboxes #v[0x32, 1, 2, 3, 4, 5, 6, 7] { idle with inst := { idle.inst with buses := .two } }
    (∃ t, exec .mboxSetRetryCount s = .next t ∧ t.inst = s.inst) ∧ (∃ t, exec .mboxSetClockRate s = .next t ∧ t.inst = s.inst)
      ∧ ∃ t, exec .mboxSetPciParams s = .next t ∧ t.inst = s.inst := ⟨⟨_, rfl, rfl⟩, ⟨_, rfl, rfl⟩, ⟨_, rfl, rfl⟩⟩
theorem test_witness_ParameterRoundTrips_target :
    let s := mailboxes #v[0x38, 0x0F00, 0xFFFF, 0xFFFF, 0, 0, 0, 0] idle
    btOk s.inst s.reg.mbin[1] = true
      ∧ ∃ t, exec .mboxSetTargetParams s = .next t ∧ t.inst = s.inst ∧ t.reg.mbin[1] = s.reg.mbin[1] :=
  ⟨by decide, _, rfl, rfl, rfl⟩
theorem test_witness_TargetCheckFailure :
    numBuses .one ≤ ((0x8000 : Word).extractLsb' 15 1).toNat
      ∧ Inst.card.numTargets ≤ ((0x1000 : Word).extractLsb' 8 7).toNat := by decide

theorem test_witness_BadPacketCompletion :
    (Instr.iocbUnknown (.ring 0) (descriptor 0x7E 0 0 0 [])).wf (decodeCtx idle) = true
      ∧ (Instr.iocbCont (.direct 0) (descriptor 0x02 1 0 0 [])).wf (decodeCtx idle) = true
      ∧ (Instr.iocbResp (.bios 0) (descriptor 0x03 1 0 0 [])).wf (decodeCtx idle) = true
      ∧ (Instr.iocbCont64 (.ring 3) (descriptor 0x0A 1 0 0 [])).wf (decodeCtx idle) = true := by decide
theorem test_witness_MarkerCompletion :
    (Instr.iocbMarker (.ring 0) (descriptor 0x04 1 0 0 [])).wf (decodeCtx idle) = true := by decide
/-- Path 1, the first target id out of range, and the last target, absent. -/
theorem test_witness_SelectionTimeoutCompletion :
    (Instr.iocbCmd (.ring 0) (descriptor 0x01 1 0x83 0 [])).wf (decodeCtx idle) = true
      ∧ reachable Inst.card (descriptor 0x01 1 0x83 0 []) = false ∧ reachable Inst.card (descriptor 0x01 1 0x10 0 []) = false
      ∧ (Instr.iocbCmd (.ring 0) (descriptor 0x01 1 0x0F 0 [])).wf (decodeCtx idle) = true
      ∧ reachable Inst.card (descriptor 0x01 1 0x0F 0 []) = true
      ∧ (answers ⟨[], [false], [], [], [], 0, 0⟩ idle).env.oracle.present = false :: [] := by decide
theorem test_witness_NonDataCommandCompletion :
    let s := answers ⟨[], [true], [⟨.statusOnly, 0x08, 1⟩], [], [], 0, 0⟩ idle
    (Instr.iocbCmd (.direct 0) plainCommand).wf (decodeCtx s) = true ∧ reachable Inst.card plainCommand = true
      ∧ segmentsFound (.direct 0) plainCommand s 0 [] ∧ (0x08 : Byte) ≠ Param.checkCondition
      ∧ s.env.oracle.present = true :: [] ∧ s.env.oracle.reply = ⟨.statusOnly, 0x08, 1⟩ :: []
      ∧ s.env.oracle.dma = List.replicate 0 true ++ [] := by
  refine ⟨by decide, by decide, ?_, by decide, by decide, by decide, by decide⟩
  unfold segmentsFound; decide
/-- A ring command with a segment of 4 bytes, none of which move. -/
theorem test_witness_NonDataCommandCompletion_underrun :
    let s := answers ⟨[], [true], [⟨.statusOnly, 0, 1⟩], [], [], 0, 0⟩ idle
    (Instr.iocbCmd64 (.ring 0) command64).wf (decodeCtx s) = true ∧ reachable Inst.card command64 = true
      ∧ segmentsFound (.ring 0) command64 s 0 [⟨0x00300000, 4⟩] ∧ (0 : Byte) ≠ Param.checkCondition
      ∧ s.env.oracle.present = true :: [] ∧ s.env.oracle.reply = ⟨.statusOnly, 0, 1⟩ :: []
      ∧ s.env.oracle.dma = List.replicate 0 true ++ [] := by
  refine ⟨by decide, by decide, ?_, by decide, by decide, by decide, by decide⟩
  unfold segmentsFound; decide
/-- The target has `bytes` for a command, and `n` DMA calls succeed. -/
def dataFor (bytes : List Byte) (n : Nat) : State :=
  answers ⟨List.replicate n true, [true], [⟨.dataIn bytes, 0, 1⟩], [], [], 0, 0⟩ idle
/-- One segment, of a ring command, filled to its last byte. -/
theorem test_witness_DataInTransfer :
    memoriesWf (dataFor [1, 2, 3, 4] 1) = true
      ∧ (Instr.iocbCmd64 (.ring 0) command64).wf (decodeCtx (dataFor [1, 2, 3, 4] 1)) = true
      ∧ reachable Inst.card command64 = true
      ∧ segmentsFound (.ring 0) command64 (dataFor [1, 2, 3, 4] 1) 0 [⟨0x00300000, 4⟩]
      ∧ (0 : Byte) ≠ Param.checkCondition ∧ (dataFor [1, 2, 3, 4] 1).env.oracle.present = true :: []
      ∧ (dataFor [1, 2, 3, 4] 1).env.oracle.reply = ⟨.dataIn [1, 2, 3, 4], 0, 1⟩ :: []
      ∧ (dataFor [1, 2, 3, 4] 1).env.oracle.dma =
          List.replicate (0 + piecesUsed [⟨0x00300000, 4⟩] (min 4 4)) true ++ [] := by
  refine ⟨by decide, by decide, by decide, ?_, by decide, by decide, by decide, by decide⟩
  unfold segmentsFound; decide
/-- A direct command with two segments, of 4 and of 2 bytes. -/
def command2 : List Byte := descriptor 0x01 1 0x03 2 (segment4 ++ [0, 0, 0x40, 0, 2, 0, 0, 0])
/-- Two segments, the second touched by its first byte alone. -/
theorem test_witness_DataInTransfer_two :
    memoriesWf (dataFor [1, 2, 3, 4, 5] 2) = true
      ∧ (Instr.iocbCmd (.direct 0) command2).wf (decodeCtx (dataFor [1, 2, 3, 4, 5] 2)) = true
      ∧ reachable Inst.card command2 = true
      ∧ segmentsFound (.direct 0) command2 (dataFor [1, 2, 3, 4, 5] 2) 0 [⟨0x00300000, 4⟩, ⟨0x00400000, 2⟩]
      ∧ (0 : Byte) ≠ Param.checkCondition ∧ (dataFor [1, 2, 3, 4, 5] 2).env.oracle.present = true :: []
      ∧ (dataFor [1, 2, 3, 4, 5] 2).env.oracle.reply = ⟨.dataIn [1, 2, 3, 4, 5], 0, 1⟩ :: []
      ∧ (dataFor [1, 2, 3, 4, 5] 2).env.oracle.dma =
          List.replicate (0 + piecesUsed [⟨0x00300000, 4⟩, ⟨0x00400000, 2⟩] (min 5 6)) true ++ [] := by
  refine ⟨by decide, by decide, by decide, ?_, by decide, by decide, by decide, by decide⟩
  unfold segmentsFound; decide
/-- A command in the last slot of the ring with five segments, four of them its own and empty, and a continuation in slot 0. -/
def command5 : List Byte := descriptor 0x01 2 0x03 5 []
def continued : State :=
  { rings 1 with env := { (rings 1).env with
      hostMem := writeBytes [] 0x00100000 ([0x02, 1, 0, 0, 0, 0, 0, 0] ++ segment4)
      oracle := ⟨[true, true], [true], [⟨.dataOut 4, 0, 1⟩], [], [], 0, 0⟩ } }
theorem test_witness_DataOutTransfer :
    (Instr.iocbCmd (.ring 3) command5).wf (decodeCtx continued) = true ∧ reachable continued.inst command5 = true
      ∧ segmentsFound (.ring 3) command5 continued 1 [⟨0, 0⟩, ⟨0, 0⟩, ⟨0, 0⟩, ⟨0, 0⟩, ⟨0x00300000, 4⟩]
      ∧ (0 : Byte) ≠ Param.checkCondition ∧ continued.env.oracle.present = true :: []
      ∧ continued.env.oracle.reply = ⟨.dataOut 4, 0, 1⟩ :: []
      ∧ continued.env.oracle.dma =
          List.replicate (1 + piecesUsed [⟨0, 0⟩, ⟨0, 0⟩, ⟨0, 0⟩, ⟨0, 0⟩, ⟨0x00300000, 4⟩] (min 4 4)) true ++ [] := by
  refine ⟨by decide, by decide, ?_, by decide, by decide, by decide, by decide⟩
  unfold segmentsFound; decide
/-- The bytes of a continuation's segment reach the target. -/
theorem test_data_out_over_continuation : nextHas (fun t => t.env.calls.head? == some (.dataOut 3 [0, 0, 0, 0]) && t.sxp.timerArmed)
    (exec (.iocbCmd (.ring 3) command5) continued) = true := by decide
/-- The target answers check condition in a phase, and `n` DMA calls succeed. -/
def checked (ph : Phase) (n : Nat) : State :=
  answers ⟨List.replicate n true, [true], [⟨ph, 0x02, 1⟩], [[0x70]], [], 0, 0⟩ idle
theorem test_witness_AutomaticSense_status :
    memoriesWf (checked .statusOnly 0) = true
      ∧ (Instr.iocbCmd (.ring 0) plainCommand).wf (decodeCtx (checked .statusOnly 0)) = true
      ∧ reachable Inst.card plainCommand = true ∧ segmentsFound (.ring 0) plainCommand (checked .statusOnly 0) 0 []
      ∧ (checked .statusOnly 0).env.oracle.sense = [0x70] :: [] ∧ (checked .statusOnly 0).env.oracle.present = true :: []
      ∧ (checked .statusOnly 0).env.oracle.reply = ⟨.statusOnly, Param.checkCondition, 1⟩ :: []
      ∧ (checked .statusOnly 0).env.oracle.dma = List.replicate 0 true ++ [] := by
  refine ⟨by decide, by decide, by decide, ?_, by decide, by decide, by decide, by decide⟩
  unfold segmentsFound; decide
/-- Data in over two segments, the second touched by its first byte alone. -/
theorem test_witness_AutomaticSense_in :
    let s := checked (.dataIn [1, 2, 3, 4, 5]) 2
    memoriesWf s = true ∧ (Instr.iocbCmd (.direct 0) command2).wf (decodeCtx s) = true ∧ reachable Inst.card command2 = true
      ∧ segmentsFound (.direct 0) command2 s 0 [⟨0x00300000, 4⟩, ⟨0x00400000, 2⟩] ∧ s.env.oracle.sense = [0x70] :: []
      ∧ s.env.oracle.present = true :: []
      ∧ s.env.oracle.reply = ⟨.dataIn [1, 2, 3, 4, 5], Param.checkCondition, 1⟩ :: []
      ∧ s.env.oracle.dma = List.replicate (0 + piecesUsed [⟨0x00300000, 4⟩, ⟨0x00400000, 2⟩] (min 5 6)) true ++ [] := by
  refine ⟨by decide, by decide, by decide, ?_, by decide, by decide, by decide, by decide⟩
  unfold segmentsFound; decide
theorem test_witness_AutomaticSense_out :
    let s := checked (.dataOut 4) 1
    memoriesWf s = true ∧ (Instr.iocbCmd64 (.ring 0) command64).wf (decodeCtx s) = true ∧ reachable Inst.card command64 = true
      ∧ segmentsFound (.ring 0) command64 s 0 [⟨0x00300000, 4⟩] ∧ s.env.oracle.sense = [0x70] :: []
      ∧ s.env.oracle.present = true :: [] ∧ s.env.oracle.reply = ⟨.dataOut 4, Param.checkCondition, 1⟩ :: []
      ∧ s.env.oracle.dma = List.replicate (0 + piecesUsed [⟨0x00300000, 4⟩] (min 4 4)) true ++ [] := by
  refine ⟨by decide, by decide, by decide, ?_, by decide, by decide, by decide, by decide⟩
  unfold segmentsFound; decide

/-- The target answers a BIOS command in a phase, and one DMA call succeeds. -/
def biosAnswer (ph : Phase) : State := answers ⟨[true], [true], [⟨ph, 0, 1⟩], [], [], 0, 0⟩ idle
/-- A state whose PIO flag is set, wherever it stands. -/
def pioFlagged : State := fwWrite (biosAnswer (.dataIn [1, 2, 3])) Config.biosPioFlagAddr 0xFFFF
theorem test_witness_BiosPioStaging_pio :
    (Instr.iocbCmd (.bios 0) command32).wf (decodeCtx pioFlagged) = true
      ∧ reachable pioFlagged.inst command32 = true ∧ pioFlagged.env.oracle.present = true :: []
      ∧ pioFlagged.env.oracle.reply = ⟨.dataIn [1, 2, 3], 0, 1⟩ :: []
      ∧ (fwRead pioFlagged Config.biosPioFlagAddr).getLsbD Config.biosPioFlagBit = true := by
  have hall : ∀ k : Fin 16, (0xFFFF : Word).getLsbD k = true := by decide
  refine ⟨(by decide : (Instr.iocbCmd (.bios 0) command32).wf (decodeCtx idle) = true),
    (by decide : reachable Inst.card command32 = true), rfl, rfl, ?_⟩
  rw [pioFlagged, Laws.fwRead_fwWrite (by decide), if_pos rfl]
  exact hall _
/-- No firmware word is set, so the PIO flag is clear wherever it stands. -/
theorem test_witness_BiosPioStaging_flag_clear :
    let s := biosAnswer (.dataIn [1, 2])
    (Instr.iocbCmd (.bios 0) command32).wf (decodeCtx s) = true ∧ reachable s.inst command32 = true
      ∧ s.env.oracle.present = true :: [] ∧ s.env.oracle.reply = ⟨.dataIn [1, 2], 0, 1⟩ :: []
      ∧ (fwRead s Config.biosPioFlagAddr).getLsbD Config.biosPioFlagBit = false ∧ memoriesWf s = true
      ∧ s.env.oracle.dma = List.replicate (min (min 2 (segment32 command32 32).count) 1) true ++ [] := by
  have hall : ∀ k : Fin 16, (0 : Word).getLsbD k = false := by decide
  exact ⟨by decide, by decide, rfl, rfl, hall _, by decide, by decide⟩
/-- Data out over the whole segment, and status alone from a command without segments, whose DMA answers are not used. -/
theorem test_witness_BiosPioStaging_others :
    let s := biosAnswer (.dataOut 4)
    let u := biosAnswer .statusOnly
    (Instr.iocbCmd64 (.bios 0) command64).wf (decodeCtx s) = true ∧ reachable s.inst command64 = true
      ∧ s.env.oracle.present = true :: [] ∧ s.env.oracle.reply = ⟨.dataOut 4, 0, 1⟩ :: []
      ∧ s.env.oracle.dma = List.replicate (min (min 4 (segment64 command64 40).count) 1) true ++ []
      ∧ (Instr.iocbCmd (.bios 0) plainCommand).wf (decodeCtx u) = true ∧ reachable u.inst plainCommand = true
      ∧ le16 plainCommand 18 = 0 ∧ u.env.oracle.present = true :: [] ∧ u.env.oracle.reply = ⟨.statusOnly, 0, 1⟩ :: [] := by
  decide

theorem test_witness_EngineFaultsStop_recorded :
    ({ idle with faulted := some .dmaFailure } : State).faulted = some .dmaFailure := by decide
theorem test_witness_EngineFaultsStop_direct :
    let s := mailboxes #v[0x54, 64, 0x0030, 0, 0, 0, 0, 0] (dmaAnswers [false] idle)
    s.sxp.state = .idle ∧ s.env.oracle.dma = false :: [] ∧ s.reg.mbin[1] = 64 := by decide
/-- A pending head slot, aborted and not. -/
theorem test_witness_EngineFaultsStop_head :
    ∀ q ∈ ([[], [0]] : List (List Word)),
      let s := engine (fun x => { x with abortQ := q }) (dmaAnswers [false] (rings 0))
      let u : State := { s with reg := { s.reg with mbin := s.reg.mbin.set 4 1 } }
      s.sxp.state = .idle ∧ s.sxp.running = false ∧ s.sxp.mboxCmdPending = false ∧ s.sxp.directReq = none
        ∧ ringBlocked u = none ∧ s.env.oracle.dma = false :: [] := by decide
/-- Twelve segments, four of them inline: slot 1 holds a continuation and slot 2 nothing. -/
def command12 : List Byte := descriptor 0x01 3 0x03 12 segment4
def walking (q : List Bool) : State :=
  { rings 3 with env := { (rings 3).env with
      hostMem := writeBytes [] 0x00100040 [0x02, 1], oracle := ⟨q, [true], [], [], [], 0, 0⟩ } }
theorem test_witness_EngineFaultsStop_continuation :
    (Instr.iocbCmd (.ring 0) command12).wf (decodeCtx (walking [])) = true ∧ reachable Inst.card command12 = true
      ∧ walkReaches 0 command12 (walking []) 1 ∧ isContinuation (continuationBytes 0 1 (walking [])) = false
      ∧ (walking [true, true]).env.oracle.dma = List.replicate (1 + 1) true ++ []
      ∧ (walking [true, false]).env.oracle.dma = List.replicate 1 true ++ false :: [] := by
  refine ⟨by decide, by decide, ?_, by decide, by decide, by decide⟩
  unfold walkReaches; decide
/-- The second of two segments, for data in and for data out. -/
theorem test_witness_EngineFaultsStop_segment :
    let s (ph : Phase) := answers ⟨[true, false], [true], [⟨ph, 0, 1⟩], [], [], 0, 0⟩ idle
    let segs : List Segment := [⟨0x00300000, 4⟩, ⟨0x00400000, 2⟩]
    (Instr.iocbCmd (.direct 0) command2).wf (decodeCtx (s .statusOnly)) = true ∧ reachable Inst.card command2 = true
      ∧ segmentsFound (.direct 0) command2 (s .statusOnly) 0 segs ∧ memoriesWf (s (.dataIn [1, 2, 3, 4, 5])) = true
      ∧ 1 < piecesUsed segs (min 5 (segmentBytes segs)) ∧ bytesInPieces segs 1 = 4
      ∧ (s (.dataOut 5)).env.oracle.dma = List.replicate (0 + 1) true ++ false :: [] := by
  refine ⟨by decide, by decide, ?_, by decide, by decide, by decide, by decide⟩
  unfold segmentsFound; decide
theorem test_witness_EngineFaultsStop_bios :
    let s (ph : Phase) := answers ⟨[false], [true], [⟨ph, 0, 1⟩], [], [], 0, 0⟩ idle
    (Instr.iocbCmd (.bios 0) command32).wf (decodeCtx (s (.dataIn [1]))) = true ∧ reachable Inst.card command32 = true
      ∧ le16 command32 18 ≠ 0 ∧ 0 < (segment32 command32 32).count ∧ (s (.dataOut 1)).env.oracle.dma = false :: []
      ∧ (fwRead (s (.dataIn [1])) Config.biosPioFlagAddr).getLsbD Config.biosPioFlagBit = false := by
  have hall : ∀ k : Fin 16, (0 : Word).getLsbD k = false := by decide
  exact ⟨by decide, by decide, by decide, by decide, by decide, hall _⟩
theorem test_witness_MailboxResultPosting_free :
    let s := events [.fire .sxp] waiting
    s.faulted = none ∧ s.sxp.running = false ∧ s.env.script = .fire .sxp :: [] ∧ s.sxp.timerArmed = true
      ∧ s.sxp.state = .mboxWaitTimer ∧ s.sxp.postKind = some .mboxResult ∧ s.reg.sema &&& Param.semaLock = 0 := by decide
theorem test_witness_MailboxResultPosting_held :
    let s := events [.fire .sxp] { waiting with reg := { waiting.reg with sema := 0x0001 } }
    s.faulted = none ∧ s.sxp.running = false ∧ s.env.script = .fire .sxp :: [] ∧ s.sxp.timerArmed = true
      ∧ s.sxp.state = .mboxWaitTimer ∧ s.sxp.postKind = some .mboxResult ∧ s.reg.sema &&& Param.semaLock = Param.semaLock := by decide
theorem test_witness_MailboxResultPosting_direct_noRing :
    let s := events [.fire .sxp] (engine (fun x => { x with
      postKind := some .mboxAndRing, pktResp := some cleanAnswer }) waiting)
    s.faulted = none ∧ s.sxp.running = false ∧ s.env.script = .fire .sxp :: [] ∧ s.sxp.timerArmed = true
      ∧ s.sxp.state = .mboxWaitTimer ∧ s.reg.sema &&& Param.semaLock = 0 ∧ s.sxp.postKind = some .mboxAndRing
      ∧ s.sxp.pktResp.isSome = true ∧ s.sxp.respInit = false := by decide
theorem test_witness_StagedResultPostsAnswer :
    let outs : List (Fin 8 × Word) := [(7, 0x7777), (1, 0x1111)]
    (outs.map Prod.fst).Nodup ∧ (0 : Fin 8) ∉ outs.map Prod.fst := by decide

/-- A posting of the last slot's response, with an empty request ring. -/
def posting (st : SxpState) (k : PostKind) : State :=
  events [.fire .sxp] <| engine (fun x => { x with
    state := st, postKind := some k, timerArmed := true, pktResp := some cleanAnswer, respIn := 3, reqOut := 1
    pkt := some ⟨plainCommand, .ring 0, k == .silent⟩ }) (dmaAnswers [true] (rings 1))
theorem test_witness_RingCompletionPosting :
    let s := posting .setRiscInterrupt .ring
    memoriesWf s = true ∧ s.faulted = none ∧ s.sxp.running = false ∧ s.env.script = .fire .sxp :: []
      ∧ s.sxp.timerArmed = true ∧ s.sxp.state = .setRiscInterrupt ∧ s.sxp.postKind = some .ring
      ∧ s.sxp.pktResp = some cleanAnswer ∧ s.env.oracle.dma = true :: [] := by decide
/-- The producer moved on while the engine waited: the posting of slot 0 fetches slot 1, and its command waits for its own timer
(R443, R614; vector S28). -/
theorem test_posting_takes_next_entry :
    let s := posting .setRiscInterrupt .ring
    nextHas (fun t => t.reg.isr == 4 && t.reg.mbout[4] == 1 && t.reg.mbout[5] == 0 && t.sxp.state == .setRiscInterrupt
        && t.sxp.timerArmed && t.sxp.pkt.map (·.origin) == some (.ring 1) && t.sxp.reqOut == 2)
      (step { s with
        reg := { s.reg with mbin := #v[0, 0, 0, 0, 2, 0, 0, 0] }
        env := { s.env with
          hostMem := writeBytes [] 0x00100040 plainCommand
          oracle := ⟨[true, true], [true], [⟨.statusOnly, 0, 1⟩], [], [], 0, 0⟩ } }) = true := by decide
/-- The response ring is full, and the entry is forced. -/
theorem test_witness_MailboxResultPosting_direct_ring :
    let s := posting .mboxWaitTimer .mboxAndRing
    s.faulted = none ∧ s.sxp.running = false ∧ s.env.script = .fire .sxp :: [] ∧ s.sxp.timerArmed = true
      ∧ s.sxp.state = .mboxWaitTimer ∧ s.reg.sema &&& Param.semaLock = 0 ∧ s.sxp.postKind = some .mboxAndRing
      ∧ s.sxp.pktResp = some cleanAnswer ∧ s.sxp.respInit = true ∧ memoriesWf s = true ∧ s.env.oracle.dma = true :: []
      ∧ nextRespIn s.sxp = ringMod s.reg.mbin[5] s.sxp.respLen := by decide
/-- The response entries of the three completions that write one, each refused. -/
theorem test_witness_EngineFaultsStop_response :
    ∀ e ∈ [(SxpState.setRiscInterrupt, PostKind.ring), (.waitTimer, .silent), (.mboxWaitTimer, .mboxAndRing)],
      let s := dmaAnswers [false] (posting e.1 e.2)
      s.faulted = none ∧ s.sxp.running = false ∧ s.sxp.pktResp = some cleanAnswer ∧ s.env.oracle.dma = false :: []
        ∧ s.env.script = .fire .sxp :: [] ∧ s.sxp.timerArmed = true ∧ s.sxp.state = e.1 ∧ s.sxp.postKind = some e.2
        ∧ s.sxp.respInit = true ∧ s.reg.sema &&& Param.semaLock = 0 := by decide
theorem test_witness_EngineFaultsStop_released :
    let s := lockedDirect (dmaAnswers [false] (rings 1))
    s.faulted = none ∧ s.sxp.running = false ∧ s.sxp.pktResp = some cleanAnswer ∧ s.env.oracle.dma = false :: []
      ∧ s.sxp.timerArmed = false ∧ s.sxp.state = .acquireMboxSemaphore ∧ s.sxp.postKind = some .mboxAndRing
      ∧ s.sxp.respInit = true ∧ ((4 : Word) &&& Param.semaMask) &&& Param.semaLock = 0 := by decide
theorem test_witness_AbortedSlotSkipped_dispatch :
    let s := engine (fun x => { x with abortQ := [2, 0] }) (dmaAnswers [true] (rings 1))
    s.sxp.state = .idle ∧ s.sxp.running = false ∧ s.sxp.mboxCmdPending = false ∧ s.sxp.directReq = none
      ∧ ringBlocked { s with reg := { s.reg with mbin := s.reg.mbin.set 4 3 } } = none
      ∧ ringBlocked { s with reg := { s.reg with mbin := s.reg.mbin.set 5 2 } } = none
      ∧ s.sxp.reqOut ∈ s.sxp.abortQ ∧ s.env.oracle.dma = true :: [] := by decide
theorem test_witness_AbortedSlotSkipped_posting :
    let s := posting .waitTimer .silent
    memoriesWf s = true ∧ s.faulted = none ∧ s.sxp.running = false ∧ s.env.script = .fire .sxp :: []
      ∧ s.sxp.timerArmed = true ∧ s.sxp.state = .waitTimer ∧ s.sxp.pktResp = some cleanAnswer
      ∧ s.env.oracle.dma = true :: [] := by decide
theorem test_witness_FastPosting :
    let s := posting .mboxWaitTimer .fastPost
    s.faulted = none ∧ s.sxp.running = false ∧ s.env.script = .fire .sxp :: [] ∧ s.sxp.timerArmed = true
      ∧ s.sxp.state = .mboxWaitTimer ∧ s.sxp.postKind = some .fastPost ∧ s.reg.sema &&& Param.semaLock = 0 := by decide

/-- The flash in a mode, with the last block protected and two bytes programmed. -/
def flashIn (m : FlMode) (a : Word) : State :=
  flash (fun f => { f with
    mode := m, array := [(0x0100, 0x0F), (0xFFFF, 0x0F)]
    prot := #v[false, false, false, false, false, false, false, true]
    acceptArmed := m == .eraseAccept, doneArmed := flashBusy m })
    { idle with reg := { idle.reg with flashAddr := a }, inst := { idle.inst with flashSize := .k64 } }
theorem test_witness_FlashCommandSequence :
    (flashIn .readArray 0x5555).flash.mode = .readArray ∧ (flashIn .autoselect 0x2AAA).flash.mode = .autoselect
      ∧ (∀ e ∈ flashCommands, e.1 ≠ (0x77 : Byte)) := by decide
/-- The three outcomes of a program cycle: a protected block, a bit that would be set, a byte that can be programmed. -/
theorem test_witness_FlashProgramByte :
    let at' := flashIndex .k64 (flashAddrOf (flashIn .programSetup 0x0100))
    memoriesWf (flashIn .programSetup 0x0100) = true ∧ (flashIn .programSetup 0x0100).flash.mode = .programSetup
      ∧ (flashIn .programSetup 0xFFFF).flash.prot[flashBlock .k64 (flashAddrOf (flashIn .programSetup 0xFFFF))] = true
      ∧ (0xFF : Byte) &&& ~~~(Memory.read flashDefault (flashIn .programSetup 0x0100).flash.array at') ≠ 0
      ∧ (0x0F : Byte) &&& ~~~(Memory.read flashDefault (flashIn .programSetup 0x0100).flash.array at') = 0 := by decide
theorem test_witness_FlashBusyModes :
    (flashIn .programming 0).flash.mode = .programming ∧ (flashIn .erasing 0).flash.mode = .erasing
      ∧ (flashIn .chipErasing 0).flash.mode = .chipErasing ∧ (flashIn .programError 0).flash.mode = .programError
      ∧ (flashIn .eraseAccept 0).flash.mode = .eraseAccept ∧ (flashIn .eraseAccept 0).flash.acceptArmed = true
      ∧ (flashIn .erasing 0).flash.doneArmed = true ∧ (flashIn .erasing 0).faulted = none
      ∧ (flashIn .eraseAccept 0).faulted = none ∧ (flashIn .erasing 0).sxp.running = false
      ∧ (events [.fire .eraseAccept] (flashIn .eraseAccept 0)).env.script = .fire .eraseAccept :: []
      ∧ (events [.fire .flashDone] (flashIn .erasing 0)).env.script = .fire .flashDone :: [] := by decide

/-- A state that meets every invariant, and a step from it that answers a next state. -/
theorem test_witness_invariants :
    let s := events [.write 0x0008 0x0001] idle
    memoriesWf s = true ∧ flashWf s.flash = true ∧ engineInv s = true ∧ registersWf s.reg = true
      ∧ ∃ t, step s = .next t := ⟨by decide, by decide, by decide, by decide, _, rfl⟩
/-- Blocks being erased, with the timeout bit; and the bit missing, or an error bit where none can be (R67, R509, R512). -/
theorem test_witness_invariants_busy :
    let at' (m : FlMode) (st : Byte) (done : Bool) := flash (fun f => { f with mode := m, status := st, doneArmed := done }) idle
    flashWf (at' .erasing 0x48 true).flash = true ∧ flashWf (at' .erasing 0x40 true).flash = false
      ∧ flashWf (at' .programError 0x20 false).flash = true ∧ flashWf (at' .programming 0x20 true).flash = false
      ∧ flashWf (at' .readArray 0x40 false).flash = false := by decide
theorem test_witness_PowerOnMeetsInvariants :
    Memory.wf flashDefault [(0x0000, 0x55), (0xFFFF, 0x00)] = true
      ∧ cellsBelow (flashBytes .k64) ([(0x0000, 0x55), (0xFFFF, 0x00)] : List Host.Cell) = true := by decide

end Sys2Proof.Tests
end

section
/-! What every step keeps: a relation between the state before and after, proved once for each operation of the block and from
there for the engine's steps, the mailbox commands, the instructions and `step`. The invariants of the memories and of the
registers follow from it. -/

namespace Sys2Proof.Proofs

open Sys2Proof.Machine Sys2Proof.Safety Sys2Proof.Laws

/-! ### Canonical memories -/

/-- A memory in canonical form, inside an address space of `n` cells. -/
def Canonical {w : Nat} (d : BitVec w) (n : Nat) (m : List (Nat × BitVec w)) : Prop :=
  Memory.wf d m = true ∧ cellsBelow n m = true

theorem Canonical.write {w : Nat} {d : BitVec w} {n : Nat} {m : List (Nat × BitVec w)} (h : Canonical d n m) {a : Nat}
    (ha : a < n) (v : BitVec w) : Canonical d n (Memory.write d m a v) :=
  ⟨memory_wf_write h.1 a v, cellsBelow_write h.2 ha v⟩

theorem Canonical.filter {w : Nat} {d : BitVec w} {n : Nat} {m : List (Nat × BitVec w)} (h : Canonical d n m)
    (f : Nat × BitVec w → Bool) : Canonical d n (m.filter f) :=
  ⟨memory_wf_filter h.1 f, cellsBelow_filter h.2 f⟩

theorem memoriesWf_iff (s : State) : memoriesWf s = true ↔
    Canonical hostDefault (2 ^ 64) s.env.hostMem ∧ Canonical fwDefault (2 ^ 16) s.fw
      ∧ Canonical flashDefault (flashBytes s.inst.flashSize) s.flash.array := by
  simp only [memoriesWf, Canonical, Bool.and_eq_true, and_assoc]

/-! ### Register fields that read 0 -/

theorem registersWf_iff (r : Regs) : registersWf r = true ↔
    r.icr &&& Param.icrSoftReset = 0 ∧ r.isr &&& ~~~Param.isrRiscInt = 0 ∧ r.sema &&& ~~~Param.semaMask = 0 := by
  simp only [registersWf, Bool.and_eq_true, beq_iff_eq, and_assoc]

section bits

variable {w : Nat} {a b m : BitVec w}

theorem or_and_eq_zero (ha : a &&& m = 0) (hb : b &&& m = 0) : (a ||| b) &&& m = 0 := by
  rw [BitVec.and_or_distrib_right, ha, hb, BitVec.or_self]

theorem and_and_eq_zero (ha : a &&& m = 0) (b : BitVec w) : (a &&& b) &&& m = 0 := by
  rw [BitVec.and_assoc, BitVec.and_comm b, ← BitVec.and_assoc, ha]
  exact BitVec.zero_and

theorem and_not_and_eq_zero (a m : BitVec w) : (a &&& ~~~m) &&& m = 0 := by
  rw [BitVec.and_assoc, BitVec.and_comm (~~~m), BitVec.and_not_self]
  exact BitVec.and_zero

theorem and_and_not_eq_zero (a m : BitVec w) : (a &&& m) &&& ~~~m = 0 := by
  rw [BitVec.and_assoc, BitVec.and_not_self]
  exact BitVec.and_zero

end bits

/-- The host's write of SEMA leaves its two meaningful bits alone (R209). -/
theorem semaWritten_rest {sema : Word} (h : sema &&& ~~~Param.semaMask = 0) (v : Word) :
    semaWritten sema v &&& ~~~Param.semaMask = 0 := by
  unfold semaWritten
  split
  · exact and_and_not_eq_zero v _
  · exact and_and_eq_zero h _

theorem regsReset_wf (n : Inst) : registersWf (Regs.reset n) = true := by
  rw [registersWf_iff]
  exact ⟨BitVec.zero_and, BitVec.zero_and, BitVec.zero_and⟩

/-! ### What the block keeps beside the flash unit -/

/-- From `s` to `t` the card's constants and the flash unit are the same, and the invariants of the registers and of the host and
firmware memories are kept. -/
structure Keeps (s t : State) : Prop where
  inst : t.inst = s.inst
  flash : t.flash = s.flash
  registers : registersWf s.reg = true → registersWf t.reg = true
  hostMem : Canonical hostDefault (2 ^ 64) s.env.hostMem → Canonical hostDefault (2 ^ 64) t.env.hostMem
  fw : Canonical fwDefault (2 ^ 16) s.fw → Canonical fwDefault (2 ^ 16) t.fw

namespace Keeps

theorem refl (s : State) : Keeps s s := ⟨rfl, rfl, id, id, id⟩

theorem trans {s t u : State} (h : Keeps s t) (k : Keeps t u) : Keeps s u where
  inst := k.inst.trans h.inst
  flash := k.flash.trans h.flash
  registers := k.registers ∘ h.registers
  hostMem := k.hostMem ∘ h.hostMem
  fw := k.fw ∘ h.fw

/-- Other registers, the engine and the rest of the environment are free to change. -/
theorem of_eq {s t : State} (inst : t.inst = s.inst := by rfl) (flash : t.flash = s.flash := by rfl)
    (icr : t.reg.icr = s.reg.icr := by rfl) (isr : t.reg.isr = s.reg.isr := by rfl)
    (sema : t.reg.sema = s.reg.sema := by rfl) (hostMem : t.env.hostMem = s.env.hostMem := by rfl)
    (fw : t.fw = s.fw := by rfl) : Keeps s t where
  inst := inst
  flash := flash
  registers h := by rwa [registersWf_iff, icr, isr, sema, ← registersWf_iff]
  hostMem h := hostMem ▸ h
  fw h := fw ▸ h

/-- Registers are replaced by others that hold 0 in the same bits. -/
theorem of_registers {s : State} {r : Regs} (h : registersWf s.reg = true → registersWf r = true) :
    Keeps s { s with reg := r } :=
  ⟨rfl, rfl, h, id, id⟩

end Keeps

/-! ### Operations on registers -/

theorem writeIcr_keeps (v : Word) (s : State) : Keeps s { s with reg := { s.reg with icr := icrStored v } } :=
  .of_registers fun h => by
    rw [registersWf_iff] at h ⊢
    obtain ⟨-, isr, sema⟩ := h
    exact ⟨and_not_and_eq_zero v _, isr, sema⟩

theorem storeSema_keeps (v : Word) (s : State) : Keeps s (storeSema v s) :=
  .of_registers fun h => by
    rw [registersWf_iff] at h ⊢
    obtain ⟨icr, isr, sema⟩ := h
    exact ⟨icr, isr, semaWritten_rest sema v⟩

theorem clearInt_keeps (s : State) : Keeps s (clearInt s) :=
  .of_registers fun h => by
    rw [registersWf_iff] at h ⊢
    obtain ⟨icr, isr, sema⟩ := h
    exact ⟨icr, and_and_eq_zero isr _, sema⟩

theorem raiseInt_keeps (s : State) : Keeps s (raiseInt s) :=
  .of_registers fun h => by
    rw [registersWf_iff] at h ⊢
    obtain ⟨icr, isr, sema⟩ := h
    exact ⟨icr, or_and_eq_zero isr (by decide), sema⟩

theorem postOutputs_keeps (s : State) : Keeps s (postOutputs s) :=
  .of_registers fun h => by
    rw [registersWf_iff] at h ⊢
    obtain ⟨icr, isr, sema⟩ := h
    exact ⟨icr, isr, or_and_eq_zero sema (by decide)⟩

theorem controllerReset_keeps (s : State) : Keeps s (controllerReset s) where
  inst := rfl
  flash := rfl
  registers _ := regsReset_wf s.inst
  hostMem := id
  fw _ := fwReset_wf

/-! ### Oracle answers and host memory -/

theorem drawPresent_keeps {s : State} {r : Bool × State} (h : drawPresent s = r) : Keeps s r.2 := by
  obtain ⟨o, ho⟩ := drawPresent_frame s
  rw [← h, ho]; exact .of_eq

theorem drawReply_keeps (s : State) : Keeps s (drawReply s).2 := by
  obtain ⟨o, ho⟩ := drawReply_frame s
  rw [ho]; exact .of_eq

theorem drawSense_keeps (s : State) : Keeps s (drawSense s).2 := by
  obtain ⟨o, ho⟩ := drawSense_frame s
  rw [ho]; exact .of_eq

theorem drawNvram_keeps (s : State) : Keeps s (drawNvram s).2 := by
  obtain ⟨o, ho⟩ := drawNvram_frame s
  rw [ho]; exact .of_eq

theorem hostStore_keeps (s : State) (a : Addr) (bytes : List Byte) : Keeps s (hostStore s a bytes) where
  inst := rfl
  flash := rfl
  registers := id
  hostMem h := hostMem_writeBytes h.1 h.2 a bytes
  fw := id

/-- The state in which a DMA call leaves the block. -/
def dmaState {α : Type} : Dma α → State
  | .ok _ s | .error s => s

theorem memRead_keeps {s : State} {a : Addr} {n : Nat} {r : Dma (List Byte)} (h : memRead s a n = r) :
    Keeps s (dmaState r) := by
  subst h
  rcases memRead_cases s a n with h | h <;> rw [h] <;> exact .of_eq

theorem memWrite_keeps {s : State} {a : Addr} {bytes : List Byte} {r : Dma Unit} (h : memWrite s a bytes = r) :
    Keeps s (dmaState r) := by
  subst h
  rcases memWrite_cases s a bytes with h | h <;> rw [h]
  · exact (hostStore_keeps s a bytes).trans .of_eq
  · exact .of_eq

theorem writeResp_keeps {r : Response} {s : State} {x : Dma Unit} (h : writeResp r s = x) : Keeps s (dmaState x) := by
  subst h
  unfold writeResp
  split
  · next h => exact (memWrite_keeps h).trans .of_eq
  · next h => exact memWrite_keeps h

/-! ### Firmware memory -/

theorem fwWriteWords_keeps (s : State) (a : Word) (ws : List Word) : Keeps s (fwWriteWords s a ws) := by
  obtain ⟨m, h, hw, hb⟩ := fwWriteWords_frame s a ws
  rw [h]
  exact ⟨rfl, rfl, id, id, fun hm => ⟨hw hm.1, hb hm.2⟩⟩

/-! ### Mailbox commands -/

theorem markAborted_keeps (slot : Word) (s : State) : Keeps s (markAborted slot s) := by
  unfold markAborted
  split <;> exact .of_eq

theorem abortSlots_keeps (m : List Byte → Bool) (n : Nat) (slot : Word) (s : State) :
    Keeps s (abortSlots m n slot s) := by
  induction n generalizing slot s with
  | zero => exact .refl s
  | succ n ih =>
    rw [abortSlots]
    split
    · next b t h =>
      have hm : Keeps t (if isCommand b && m b then markAborted slot t else t) := by
        split
        · exact markAborted_keeps slot t
        · exact .refl t
      exact (memRead_keeps h).trans (hm.trans (ih _ _))
    · next h => exact memRead_keeps h

theorem abortScan_keeps (m : List Byte → Bool) (s : State) : Keeps s (abortScan m s) := by
  unfold abortScan
  split
  · exact abortSlots_keeps m _ _ s
  · exact .refl s

theorem resetTargets_keeps (t n : Nat) (s : State) : Keeps s (resetTargets t n s) := by
  induction n generalizing t s with
  | zero => exact .refl s
  | succ n ih =>
    rw [resetTargets]
    split
    · next h => exact (drawPresent_keeps h).trans (.trans .of_eq (ih _ _))
    · next h => exact (drawPresent_keeps h).trans (ih _ _)

/-- The state in which a mailbox command's rule leaves the block. -/
def answerState : MboxAnswer → State
  | .pending s | .result _ _ s => s

/-- A mailbox command whose rule keeps what the block keeps. -/
def Keeping (body : State → MboxAnswer) : Prop := ∀ s, Keeps s (answerState (body s))

theorem completed_keeping {outs : State → List (Fin 8 × Word)} : Keeping fun s => completed (outs s) s := .refl

theorem badParam_keeping : Keeping badParam := .refl

theorem checkedBt_keeping {body : State → MboxAnswer} (h : Keeping body) : Keeping fun s => checkedBt s (body s) := by
  intro s
  simp only [checkedBt]
  split
  · exact h s
  · exact badParam_keeping s

theorem loadRam_keeping {h : State → Addr} : Keeping fun s => loadRam (h s) s := by
  intro s
  simp only [loadRam]
  split
  · split
    · next hr => exact (memRead_keeps hr).trans (fwWriteWords_keeps _ _ _)
    · next hr => exact memRead_keeps hr
  · exact badParam_keeping s

theorem dumpRam_keeping {h : State → Addr} : Keeping fun s => dumpRam (h s) s := by
  intro s
  simp only [dumpRam]
  split
  · split <;> next hw => exact memWrite_keeps hw
  · exact badParam_keeping s

theorem initReqQueue_keeping {h : State → Addr} : Keeping fun s => initReqQueue (h s) s := by
  intro s
  simp only [initReqQueue]
  split
  · exact badParam_keeping s
  · exact .of_eq

theorem initResQueue_keeping {h : State → Addr} : Keeping fun s => initResQueue (h s) s := by
  intro s
  simp only [initResQueue]
  split
  · exact badParam_keeping s
  · exact .of_eq

theorem queueDirect_keeping {d : State → DirectReq} : Keeping fun s => queueDirect (d s) s := fun _ => .of_eq

theorem abortScan_keeping {m : State → List Byte → Bool} : Keeping fun s => completed [] (abortScan (m s) s) :=
  fun s => abortScan_keeps (m s) s

theorem getBusParam_keeping {k : BParam} : Keeping (getBusParam k) := by
  intro s
  unfold getBusParam
  split <;> exact .refl s

theorem setBusParam_keeps (b : Fin 2) (k : BParam) (v : Word) (s : State) : Keeps s (setBusParam b k v s) := .of_eq

theorem setBusParams_keeping {k : BParam} : Keeping (setBusParams k) := by
  intro s
  unfold setBusParams
  split
  · exact setBusParam_keeps 0 k _ s
  · exact (setBusParam_keeps 0 k _ s).trans (setBusParam_keeps 1 k _ _)

theorem bodyVerifyChecksum_keeping : Keeping bodyVerifyChecksum := by
  intro s
  simp only [bodyVerifyChecksum]
  split <;> exact .refl s

theorem bodyBusReset_keeping : Keeping bodyBusReset := by
  intro s
  unfold bodyBusReset
  split
  · exact badParam_keeping s
  · split
    · exact resetTargets_keeps 0 _ s
    · exact .refl s

theorem bodyGetRetryCount_keeping : Keeping bodyGetRetryCount := by
  intro s
  simp only [bodyGetRetryCount]
  split <;> exact .refl s

theorem bodySetRetryCount_keeping : Keeping bodySetRetryCount := by
  intro s
  have bus0 := (setBusParam_keeps 0 .retryCount s.reg.mbin[1] s).trans (setBusParam_keeps 0 .retryDelay s.reg.mbin[2] _)
  simp only [bodySetRetryCount]
  split
  · exact bus0
  · exact (bus0.trans (setBusParam_keeps 1 _ _ _)).trans (setBusParam_keeps 1 _ _ _)

theorem bodyWriteFourRamWords_keeping : Keeping bodyWriteFourRamWords := by
  intro s
  simp only [bodyWriteFourRamWords]
  split
  · exact fwWriteWords_keeps s _ _
  · exact badParam_keeping s

theorem bodyExecuteIocbA64_keeping : Keeping bodyExecuteIocbA64 := by
  intro s
  unfold bodyExecuteIocbA64
  split
  · exact badParam_keeping s
  · exact .of_eq

theorem bodyReadFourRamWords_keeping : Keeping bodyReadFourRamWords := by
  intro s
  simp only [bodyReadFourRamWords]
  split <;> exact .refl s

/-- Every rule of a named opcode keeps what the block keeps (R301 to R372). -/
theorem mailboxBodies_keeping (n : OpenNumbers) : ∀ body ∈ (mailboxBodies n).map Prod.snd, Keeping body := by
  simp only [mailboxBodies, candidateBodies, List.cons_append, List.nil_append, List.map_cons, List.map_nil,
    List.forall_mem_cons, List.not_mem_nil, false_implies, implies_true, and_true]
  exact ⟨
    -- firmware memory and the mailboxes: NO_OP to ABOUT_FIRMWARE
    completed_keeping, loadRam_keeping, completed_keeping, dumpRam_keeping, fun s => fwWriteWords_keeps s _ [_],
    completed_keeping, completed_keeping, bodyVerifyChecksum_keeping, completed_keeping,
    -- rings and direct requests: INIT_REQ_QUEUE to STOP_FIRMWARE
    initReqQueue_keeping, initResQueue_keeping, queueDirect_keeping, completed_keeping, completed_keeping,
    -- command control: ABORT to GET_FIRMWARE_STATUS
    checkedBt_keeping abortScan_keeping, checkedBt_keeping abortScan_keeping, checkedBt_keeping abortScan_keeping,
    bodyBusReset_keeping, checkedBt_keeping completed_keeping, checkedBt_keeping completed_keeping,
    checkedBt_keeping completed_keeping, checkedBt_keeping abortScan_keeping, checkedBt_keeping completed_keeping,
    completed_keeping,
    -- parameters read: GET_INIT_SCSI_ID to GET_RESET_DELAY_PARAMS
    getBusParam_keeping, getBusParam_keeping, bodyGetRetryCount_keeping, getBusParam_keeping, completed_keeping,
    getBusParam_keeping, getBusParam_keeping, completed_keeping, checkedBt_keeping completed_keeping,
    checkedBt_keeping completed_keeping, getBusParam_keeping,
    -- parameters stored: SET_INIT_SCSI_ID to SET_RESET_DELAY_PARAMS
    setBusParams_keeping, setBusParams_keeping, bodySetRetryCount_keeping, setBusParams_keeping, fun _ => .of_eq,
    setBusParams_keeping, setBusParams_keeping, fun _ => .of_eq, checkedBt_keeping fun _ => .of_eq,
    checkedBt_keeping fun _ => .of_eq, setBusParams_keeping,
    -- RETURN_BIOS_BLOCK_ADDR to GET_FIRMWARE_FEATURES, the 64-bit addresses, READ_FOUR_RAM_WORDS
    completed_keeping, bodyWriteFourRamWords_keeping, queueDirect_keeping, fun _ => .of_eq, completed_keeping,
    loadRam_keeping, dumpRam_keeping, initReqQueue_keeping, initResQueue_keeping, bodyExecuteIocbA64_keeping,
    bodyReadFourRamWords_keeping⟩

theorem bodyInvalid_keeping : Keeping bodyInvalid := .refl

theorem mailboxBody_keeping (n : OpenNumbers) (op : Word) : Keeping (mailboxBody n op) := by
  unfold mailboxBody
  split
  · next e h => exact mailboxBodies_keeping n e.2 (List.mem_map_of_mem (List.mem_of_find?_eq_some h))
  · exact bodyInvalid_keeping

theorem takeMailbox_keeps {body : State → MboxAnswer} (hb : Keeping body) (s : State) :
    Keeps s (takeMailbox body s) := by
  have hk := hb { s with sxp := { s.sxp with mboxCmdPending := false } }
  unfold takeMailbox
  split <;> next h => rw [h] at hk; exact (Keeps.trans .of_eq hk).trans .of_eq

/-! ### Idle: direct requests and the ring -/

/-- The state in which the search for work from `s` leaves the block. -/
def fetchState (s : State) : Fetch → State
  | .nothing _ => s
  | .descriptor _ _ t | .aborted _ _ t | .dmaError t => t

theorem fetchDirect_keeps (d : DirectReq) (s : State) : Keeps s (fetchState s (fetchDirect d s)) := by
  simp only [fetchDirect]
  split <;> next h => exact .trans .of_eq (memRead_keeps h)

theorem fetchHead_keeps (s : State) : Keeps s (fetchState s (fetchHead s)) := by
  simp only [fetchHead]
  split
  · split <;> next h => exact .trans .of_eq (memRead_keeps h)
  · split <;> next h => exact memRead_keeps h

theorem fetch_keeps {s : State} {r : Fetch} (h : fetch s = r) : Keeps s (fetchState s r) := by
  subst h
  unfold fetch
  split
  · exact fetchDirect_keeps _ s
  · split
    · exact .refl s
    · exact fetchHead_keeps s

/-! ### The steps of the engine -/

/-- The state in which a step of the engine leaves the block. -/
def stepState : EngineStep → State
  | .go s | .suspend s _ | .fault s _ => s

theorem stepIdle_keeps (s : State) : Keeps s (stepState (stepIdle s)) := by
  unfold stepIdle
  split
  · exact takeMailbox_keeps (mailboxBody_keeping _ _) s
  · split <;> next h => exact (fetch_keeps h).trans .of_eq

theorem selectCommand_keeps (p : Packet) (s : State) : Keeps s (selectCommand p s) := by
  simp only [selectCommand]
  split
  · exact .of_eq
  · split <;> next h => exact .trans .of_eq ((drawPresent_keeps h).trans .of_eq)

theorem stepSelectDevice_keeps (p : Packet) (s : State) : Keeps s (stepState (stepSelectDevice p s)) := by
  change Keeps s (if _ then _ else _)
  split
  · exact .of_eq
  · exact selectCommand_keeps p s

/-- The state in which a part of `SendCdb` leaves the block. -/
def sentState {α : Type} : Sent α → State
  | .ok _ s | .fault s _ => s

theorem contWalk_keeps (want n : Nat) (slot : Word) (segs : List Segment) (s : State) :
    Keeps s (sentState (contWalk want n slot segs s)) := by
  induction n generalizing slot segs s with
  | zero => exact .refl s
  | succ n ih =>
    rw [contWalk]
    split
    · exact .refl s
    · split
      · next h => exact memRead_keeps h
      · next h =>
        split
        · exact memRead_keeps h
        · exact (memRead_keeps h).trans (ih _ _ _)

theorem sgList_keeps {p : Packet} {s : State} {r : Sent (List Segment)} (h : sgList p s = r) :
    Keeps s (sentState r) := by
  subst h
  simp only [sgList]
  split
  · exact contWalk_keeps _ _ _ _ s
  · exact .refl s
  · exact .refl s

theorem scatter_keeps {segs : List Segment} {bytes : List Byte} {s : State} {r : Dma Unit}
    (h : scatter segs bytes s = r) : Keeps s (dmaState r) := by
  subst h
  induction segs generalizing bytes s with
  | nil => exact .refl s
  | cons g gs ih =>
    rw [scatter]
    split
    · next h => exact (memWrite_keeps h).trans ih
    · next h => exact memWrite_keeps h

theorem gather_keeps {segs : List Segment} {n : Nat} {s : State} {r : Dma (List Byte)} (h : gather segs n s = r) :
    Keeps s (dmaState r) := by
  induction segs generalizing n s r with
  | nil => subst h; exact .refl s
  | cons g gs ih =>
    subst h
    rw [gather]
    split
    · next h => exact memRead_keeps h
    · next t h =>
      have ht : Keeps s t := memRead_keeps h
      split <;> next hg => exact ht.trans (ih hg :)

theorem issueCommand_keeps {p : Packet} {s : State} {r : CommandReply × State} (h : issueCommand p s = r) :
    Keeps s r.2 := by
  subst h
  exact .trans .of_eq (drawReply_keeps _)

theorem dataPhase_keeps {ph : Phase} {segs : List Segment} {s : State} {r : Sent Nat} (h : dataPhase ph segs s = r) :
    Keeps s (sentState r) := by
  subst h
  simp only [dataPhase]
  split
  · exact .refl s
  · split <;> next h => exact scatter_keeps h
  · split <;> next h => exact (gather_keeps h).trans .of_eq

theorem biosDataPhase_keeps {ph : Phase} {segs : List Segment} {s : State} {r : Sent Nat}
    (h : biosDataPhase ph segs s = r) : Keeps s (sentState r) := by
  subst h
  simp only [biosDataPhase]
  split
  · split
    · exact .of_eq
    · exact dataPhase_keeps rfl
  · exact dataPhase_keeps rfl
  · exact dataPhase_keeps rfl

theorem autoSense_keeps {p : Packet} {status : Byte} {r : Response} {s : State} {x : Response × State}
    (h : autoSense p status r s = x) : Keeps s x.2 := by
  subst h
  simp only [autoSense]
  split
  · exact .trans .of_eq (drawSense_keeps _)
  · exact .refl s

theorem sendCommand_keeps (p : Packet) (s : State) : Keeps s (stepState (sendCommand p s)) := by
  simp only [sendCommand]
  split
  · next hs => exact sgList_keeps hs
  · next hs =>
    have hi := (sgList_keeps hs).trans (issueCommand_keeps (p := p) rfl)
    split
    · next hd => exact hi.trans (dataPhase_keeps hd)
    · next hd => exact (hi.trans (dataPhase_keeps hd)).trans ((autoSense_keeps rfl).trans .of_eq)

theorem sendBios_keeps (p : Packet) (s : State) : Keeps s (stepState (sendBios p s)) := by
  simp only [sendBios]
  split <;> next hd => exact (issueCommand_keeps rfl).trans ((biosDataPhase_keeps hd).trans .of_eq)

theorem stepSendCdb_keeps (p : Packet) (s : State) : Keeps s (stepState (stepSendCdb p s)) := by
  unfold stepSendCdb
  split
  · exact sendBios_keeps p s
  · exact sendCommand_keeps p s
  · exact sendCommand_keeps p s

theorem finishPosting_keeps (s : State) : Keeps s (finishPosting s) := (raiseInt_keeps s).trans .of_eq

theorem stepWaitTimer_keeps (s : State) : Keeps s (stepState (stepWaitTimer s)) := by
  unfold stepWaitTimer
  split
  · exact .refl s
  · split
    · exact .refl s
    · split <;> next h => exact (writeResp_keeps h).trans .of_eq

theorem postByKind_keeps (k : PostKind) (s : State) : Keeps s (stepState (postByKind k s)) := by
  rcases hr : s.sxp.pktResp with _ | r <;> cases k <;> simp only [postByKind, hr]
  case none.ring | none.mboxAndRing | none.silent | some.silent => exact .refl s
  case none.mboxOnly | none.mboxResult | some.mboxOnly | some.mboxResult => exact finishPosting_keeps s
  case none.fastPost | some.fastPost => exact .trans .of_eq (finishPosting_keeps _)
  case some.ring =>
    split
    · next h => exact writeResp_keeps h
    · next h => exact (writeResp_keeps h).trans (.trans .of_eq (finishPosting_keeps _))
  case some.mboxAndRing =>
    split
    · split
      · next h => exact writeResp_keeps h
      · next h => exact (writeResp_keeps h).trans (finishPosting_keeps _)
    · exact finishPosting_keeps s

theorem stepSetInterrupt_keeps (s : State) : Keeps s (stepState (stepSetInterrupt s)) := by
  unfold stepSetInterrupt
  split
  · exact .refl s
  · split
    · exact postByKind_keeps _ s
    · exact .refl s

theorem stepMboxWait_keeps (s : State) : Keeps s (stepState (stepMboxWait s)) := by
  unfold stepMboxWait
  split <;> exact .of_eq

theorem stepAcquire_keeps (s : State) : Keeps s (stepState (stepAcquire s)) := by
  unfold stepAcquire
  split
  · exact .refl s
  · exact (postOutputs_keeps s).trans .of_eq

theorem onPacket_keeps {s : State} {f : Packet → EngineStep} (h : ∀ p, Keeps s (stepState (f p))) :
    Keeps s (stepState (onPacket s f)) := by
  unfold onPacket
  split
  · exact h _
  · exact .refl s

/-! ### A pass -/

theorem engineStep_keeps {s : State} {r : EngineStep} (h : engineStep s = r) : Keeps s (stepState r) := by
  subst h
  cases hs : s.sxp.state <;> simp only [engineStep, hs]
  case idle => exact stepIdle_keeps s
  case selectDevice => exact onPacket_keeps fun p => stepSelectDevice_keeps p s
  case sendCdb => exact onPacket_keeps fun p => stepSendCdb_keeps p s
  case selectionTimeout | badPacket => exact onPacket_keeps fun _ => .of_eq
  case completeCommand => exact onPacket_keeps fun _ => by split <;> exact .of_eq
  case scheduleRiscInterrupt | scheduleMboxInterrupt | scheduleTimerSilence => exact .of_eq
  case setRiscInterrupt => exact stepSetInterrupt_keeps s
  case mboxWaitTimer => exact stepMboxWait_keeps s
  case acquireMboxSemaphore => exact stepAcquire_keeps s
  case waitTimer => exact stepWaitTimer_keeps s

theorem runPass_keeps (n : Nat) (s : State) : Keeps s (runPass n s) := by
  induction n generalizing s with
  | zero => exact .of_eq
  | succ n ih =>
    rw [runPass]
    split
    · next h => exact (engineStep_keeps h).trans (ih _)
    · next h => exact (engineStep_keeps h).trans .of_eq
    · next h => exact (engineStep_keeps h).trans .of_eq

theorem resume_keeps (s : State) : Keeps s (resume s) := .trans .of_eq (runPass_keeps _ _)

theorem kick_keeps (s : State) : Keeps s (kick s) := by
  unfold kick
  split
  · exact .refl s
  · exact resume_keeps s

/-! ### The flash unit -/

/-- How one event moves the flash unit: not at all, by a bus cycle, or by one of its timers (R500, R509, R514). -/
inductive FlashMove (n : Inst) (f : Flash) : Flash → Prop
  | rest : FlashMove n f f
  | write (fa : FlashAddr) (d : Byte) : FlashMove n f (flWrite n fa d f)
  | read (fa : FlashAddr) : FlashMove n f (flRead n fa f).2
  | acceptFire (h : f.acceptArmed = true) : FlashMove n f (flAcceptFire n f)
  | doneFire (h : f.doneArmed = true) : FlashMove n f (flDoneFire f)

/-- The bytes of the flash array are in canonical form, inside the card's flash. -/
def FlashCanonical (z : FlashSize) (f : Flash) : Prop := Canonical flashDefault (flashBytes z) f.array

theorem flashIndex_lt (z : FlashSize) (fa : FlashAddr) : flashIndex z fa < flashBytes z :=
  Nat.mod_lt _ (by cases z <;> decide)

section

variable {n : Inst} {f : Flash} (h : FlashCanonical n.flashSize f)

include h

theorem flProgram_canonical (fa : FlashAddr) (d : Byte) :
    FlashCanonical n.flashSize (flProgram n.flashSize fa d f) := by
  unfold flProgram
  split
  · exact h
  · split
    · exact h
    · exact Canonical.write h (flashIndex_lt _ fa) d

theorem flCommand_canonical (d : Byte) : FlashCanonical n.flashSize (flCommand d f) := by
  unfold flCommand
  repeat' split
  all_goals exact h

theorem flConfirm_canonical (fa : FlashAddr) (d : Byte) : FlashCanonical n.flashSize (flConfirm n fa d f) := by
  unfold flConfirm
  split
  · exact Canonical.filter h _
  · split <;> exact h

theorem flSequence_canonical (fa : FlashAddr) (d : Byte) : FlashCanonical n.flashSize (flSequence n fa d f) := by
  simp only [flSequence]
  split
  · split <;> exact h
  · split <;> exact h
  · split
    · exact flCommand_canonical h d
    · exact h
  · split <;> exact h
  · split <;> exact h
  · exact flConfirm_canonical h fa d

theorem flWrite_canonical (fa : FlashAddr) (d : Byte) : FlashCanonical n.flashSize (flWrite n fa d f) := by
  cases hm : f.mode <;> simp only [flWrite, hm]
  case programSetup => exact flProgram_canonical h fa d
  case programming => exact h
  case eraseAccept =>
    split
    · exact h
    · split <;> exact h
  case erasing | chipErasing | programError => split <;> exact h
  case readArray | autoselect =>
    split
    · exact h
    · exact flSequence_canonical h fa d

theorem flRead_canonical (fa : FlashAddr) : FlashCanonical n.flashSize (flRead n fa f).2 := by
  unfold flRead
  split <;> exact h

/-- However it moves, the flash unit keeps the canonical form of its array (R69). -/
theorem flashMove_canonical {f' : Flash} (m : FlashMove n f f') : FlashCanonical n.flashSize f' := by
  cases m with
  | rest => exact h
  | write fa d => exact flWrite_canonical h fa d
  | read fa => exact flRead_canonical h fa
  | acceptFire => exact Canonical.filter h _
  | doneFire => exact h

end

/-! ### Instructions -/

/-- What a step can do: one move of the flash unit, and beside it what the block keeps. -/
structure StepKeeps (s t : State) : Prop where
  flash : FlashMove s.inst s.flash t.flash
  rest : Keeps s { t with flash := s.flash }

theorem Keeps.step {s t : State} (h : Keeps s t) : StepKeeps s t where
  flash := h.flash ▸ .rest
  rest := h.flash ▸ h

theorem Keeps.trans_step {s t u : State} (h : Keeps s t) (k : StepKeeps t u) : StepKeeps s u where
  flash := h.inst ▸ h.flash ▸ k.flash
  rest := h.flash ▸ h.trans k.rest

theorem flashWrite_keeps (d : Byte) (s : State) : StepKeeps s (flashWrite d s) := ⟨.write _ d, .of_eq⟩

theorem flashRead_keeps (s : State) : StepKeeps s (flashRead s) := ⟨.read _, .of_eq⟩

theorem accessConst_keeps (c : Word) (w : Option Word) (s : State) : Keeps s (accessConst c w s) := by
  unfold accessConst
  split <;> exact .of_eq

theorem accessDmaConf_keeps (c : Fin 2) (w : Option Word) (s : State) : Keeps s (accessDmaConf c w s) := by
  unfold accessDmaConf
  split <;> exact .of_eq

theorem accessDmaControl_keeps (c : Fin 2) (w : Option Word) (s : State) : Keeps s (accessDmaControl c w s) := by
  unfold accessDmaControl
  split <;> exact .of_eq

theorem accessDmaAddr_keeps (c : Fin 2) (j : Fin 4) (w : Option Word) (s : State) :
    Keeps s (accessDmaAddr c j w s) := by
  unfold accessDmaAddr
  split <;> exact .of_eq

theorem readNvram_keeps (s : State) :
    Keeps s (returnRead (drawNvram (recordCall .nvRead s)).1 (drawNvram (recordCall .nvRead s)).2) :=
  (Keeps.trans .of_eq (drawNvram_keeps (recordCall .nvRead s))).trans .of_eq

theorem readPio_keeps (s : State) : Keeps s (readPio s) := by
  unfold readPio
  split <;> exact .of_eq

theorem writeMbin_keeps (i : Fin 8) (v : Word) (s : State) : Keeps s (writeMbin i v s) := by
  simp only [writeMbin]
  split
  · exact .trans .of_eq (kick_keeps _)
  · exact .of_eq

theorem setHostInt_keeps (s : State) : Keeps s (setHostInt s) := by
  simp only [setHostInt]
  split
  · exact .trans .of_eq (kick_keeps _)
  · exact .of_eq

/-- The pass of a mailbox command (R401). -/
theorem resume_takeMailbox_keeps {body : State → MboxAnswer} (hb : Keeping body) (s : State) :
    Keeps s (resume (takeMailbox body s)) :=
  (takeMailbox_keeps hb s).trans (resume_keeps _)

/-- The pass of a descriptor (R405). -/
theorem resume_accept_keeps (x : SxpState) (o : Origin) (b : List Byte) (s : State) :
    Keeps s (resume (accept x o b s)) :=
  .trans .of_eq (resume_keeps _)

/-- An outcome whose next state, if it has one, keeps what a step keeps. -/
def ResultKeeps (s : State) : Result → Prop
  | .next t => StepKeeps s t
  | .fault _ | .refused _ => True

theorem execWriteIcr_keeps (v : Word) (s : State) : ResultKeeps s (execWriteIcr v s) := by
  unfold execWriteIcr
  split
  · exact (controllerReset_keeps s).step
  · exact (writeIcr_keeps v s).step

theorem execWriteSema_keeps (v : Word) (s : State) : ResultKeeps s (execWriteSema v s) := by
  simp only [execWriteSema]
  split
  · exact ((storeSema_keeps v s).trans (kick_keeps _)).step
  · exact (storeSema_keeps v s).step

/-- Every instruction keeps what a step keeps. -/
theorem exec_keeps (i : Instr) (s : State) : ResultKeeps s (exec i s) := by
  cases i
  -- accesses that store in the other registers, or nothing
  case readOdd | writeOdd | readIdLo | writeIdLo | readIdHi | writeIdHi | readConf0 | writeConf0 | readConf1 |
      writeConf1 | readIcr | readIsr | writeIsr | readSema | writeNvram | readFlashAddr | writeFlashAddr |
      writePioPort | readMbox0 | readMbox1 | readMbox2 | readMbox3 | readMbox4 | readMbox5 | readMbox6 | readMbox7 |
      readRiscPsr | writeRiscPsr | readRiscPc | writeRiscPc | readRiscMtr | writeRiscMtr | readGpioData |
      writeGpioData | readGpioEnable | writeGpioEnable | readHccr | hccrNop | hccrResetRisc | hccrPauseRisc |
      hccrReleaseRisc | hccrSingleStep | hccrClearHostInt | hccrUndefined =>
    exact Keeps.step .of_eq
  case writeIcr => exact execWriteIcr_keeps _ s
  case writeSema => exact execWriteSema_keeps _ s
  case readNvram => exact (readNvram_keeps s).step
  case readPioPort => exact (readPio_keeps s).step
  case writeMbox0 | writeMbox1 | writeMbox2 | writeMbox3 | writeMbox4 | writeMbox5 | writeMbox6 | writeMbox7 =>
    exact (writeMbin_keeps _ _ s).step
  case hccrSetHostInt => exact (setHostInt_keeps s).step
  case hccrClearRiscInt => exact (clearInt_keeps s).step
  case accessUnmapped | readSxpPinsDiff | accessDmaStatus0 | accessDmaStatus1 | accessDmaFifo0 | accessDmaFifo1 =>
    exact (accessConst_keeps _ _ s).step
  case accessDmaConf0 | accessDmaConf1 =>
    exact (accessDmaConf_keeps _ _ s).step
  case accessDmaControl0 | accessDmaControl1 =>
    exact (accessDmaControl_keeps _ _ s).step
  case accessDmaAddr00 | accessDmaAddr01 | accessDmaAddr02 | accessDmaAddr03 | accessDmaAddr10 | accessDmaAddr11 |
      accessDmaAddr12 | accessDmaAddr13 =>
    exact (accessDmaAddr_keeps _ _ _ s).step
  case mboxNoOp | mboxLoadRam | mboxExecFirmware | mboxDumpRam | mboxWriteRamWord | mboxReadRamWord |
      mboxMailboxRegTest | mboxVerifyChecksum | mboxAboutFirmware | mboxInitReqQueue | mboxInitResQueue |
      mboxExecuteIocb | mboxWakeUp | mboxStopFirmware | mboxAbort | mboxAbortDevice | mboxAbortTarget | mboxBusReset |
      mboxStopQueue | mboxStartQueue | mboxSingleStepQueue | mboxAbortQueue | mboxGetDevQueueStatus |
      mboxGetFirmwareStatus | mboxGetInitScsiId | mboxGetSelectTimeout | mboxGetRetryCount | mboxGetTagAgeLimit |
      mboxGetClockRate | mboxGetActNegState | mboxGetAsyncDataSetupTime | mboxGetPciParams | mboxGetTargetParams |
      mboxGetDevQueueParams | mboxGetResetDelayParams | mboxSetInitScsiId | mboxSetSelectTimeout | mboxSetRetryCount |
      mboxSetTagAgeLimit | mboxSetClockRate | mboxSetActNegState | mboxSetAsyncDataSetupTime | mboxSetPciParams |
      mboxSetTargetParams | mboxSetDevQueueParams | mboxSetResetDelayParams | mboxReturnBiosBlockAddr |
      mboxWriteFourRamWords | mboxExecuteBiosIocb | mboxSetFirmwareFeatures | mboxGetFirmwareFeatures | mboxLoadRamA64
      | mboxDumpRamA64 | mboxInitReqQueueA64 | mboxInitResQueueA64 | mboxExecuteIocbA64 | mboxReadFourRamWords =>
    exact (resume_takeMailbox_keeps (mailboxBodies_keeping tableNums _ (by simp [mailboxBodies, candidateBodies])) s).step
  case mboxInvalid => exact (resume_takeMailbox_keeps bodyInvalid_keeping s).step
  case iocbCmd | iocbCont | iocbResp | iocbMarker | iocbCmd64 | iocbCont64 | iocbUnknown =>
    exact (resume_accept_keeps _ _ _ s).step
  case flashUnlockAa | flashUnlock55 | flashAutoselect | flashProgram | flashEraseSetup | flashChipErase |
      flashBlockErase | flashReadArray | flashProgramData | writeFlashData =>
    exact flashWrite_keeps _ s
  case flashRead | readFlashData => exact flashRead_keeps s

/-! ### A step -/

theorem fireTimer_keeps (t : Timer) (s : State) (h : timerArmed t s = true) : StepKeeps s (fireTimer t s) := by
  cases t with
  | sxp => exact (Keeps.trans .of_eq (kick_keeps _)).step
  | eraseAccept => exact ⟨.acceptFire h, .of_eq⟩
  | flashDone => exact ⟨.doneFire h, .of_eq⟩

/-- Work whose state keeps what a step keeps; a request is still to be run, from a state in which the flash unit rests. -/
def WorkKeeps (s : State) : Work → Prop
  | .go t => StepKeeps s t
  | .run _ t => Keeps s t
  | .refuse _ => True

theorem eventWork_keeps (e : HostEvent) (s : State) : WorkKeeps s (eventWork e s) := by
  cases e with
  | read | write | flashWrite | flashRead => exact .refl s
  | store a bytes => exact (hostStore_keeps s a bytes).step
  | fire t =>
    simp only [eventWork]
    split
    · next h => exact fireTimer_keeps t s h
    · trivial
  | pciReset => exact (controllerReset_keeps s).step

theorem passWork_keeps (s : State) : WorkKeeps s (passWork s) := by
  unfold passWork
  split
  · split
    · exact Keeps.refl s
    · split
      · next h => exact fetch_keeps h
      all_goals exact (resume_keeps s).step
  · exact (resume_keeps s).step

theorem nextWork_keeps (s : State) : WorkKeeps s (nextWork s) := by
  unfold nextWork
  split
  · exact passWork_keeps s
  · split
    · exact (Keeps.refl s).step
    · next e rest _ =>
      have popped : Keeps s { s with env := { s.env with script := rest } } := .of_eq
      have work := eventWork_keeps e { s with env := { s.env with script := rest } }
      generalize eventWork e _ = w at work ⊢
      cases w with
      | go t => exact popped.trans_step work
      | run r t => exact popped.trans work
      | refuse r => trivial

/-- Every step keeps what the block keeps, with one move of the flash unit. -/
theorem step_keeps {s t : State} (h : step s = .next t) : StepKeeps s t := by
  have work := nextWork_keeps s
  unfold step at h
  split at h
  · exact absurd h (by simp)
  · split at h
    · next hw =>
      rw [hw] at work
      exact Host.Outcome.next.inj h ▸ work
    · exact absurd h (by simp)
    · next r u hw =>
      rw [hw] at work
      split at h
      · next i _ =>
        have result := exec_keeps i u
        rw [h] at result
        exact Keeps.trans_step work result
      · exact absurd h (by simp)

/-! ### The statements -/

/-- Settles O56: beside the flash unit by `Keeps`, and in it by every one of its moves. -/
theorem memoriesStayCanonical : Obligations.MemoriesStayCanonical := by
  intro s t hs h
  obtain ⟨flash, rest⟩ := step_keeps h
  obtain ⟨host, fw, array⟩ := (memoriesWf_iff s).1 hs
  have inst : t.inst = s.inst := rest.inst
  refine (memoriesWf_iff t).2 ⟨rest.hostMem host, rest.fw fw, ?_⟩
  rw [inst]
  exact flashMove_canonical array flash

/-- Settles O59: the flash unit has no part in the registers and the card's constants. -/
theorem registerFieldsKept : Obligations.RegisterFieldsKept := by
  intro s t hs h
  have rest := (step_keeps h).rest
  exact ⟨rest.registers hs, rest.inst⟩

end Sys2Proof.Proofs
end

section
/-! Accesses to the registers that only store (R205, R206, R214, R218, R219, R231): what a step does with an event of its
script, what a write stores and which offset still decodes to the register after it, and the statement that follows. -/

namespace Sys2Proof.Proofs

open Sys2Proof.Machine Sys2Proof.Safety Sys2Proof.Laws

/-! ### A step, by its work -/

theorem step_of_go {s t : State} (hf : s.faulted = none) (h : nextWork s = .go t) : step s = .next t := by
  rw [step, hf, h]

theorem step_of_run {s t : State} {r : Request} {i : Instr} (hf : s.faulted = none) (h : nextWork s = .run r t)
    (hd : decode (decodeCtx t) r = .ok i) : step s = exec i t := by
  simp only [step, hf, h, hd]

/-- Between two passes the next work is the first event of the script (log 16). -/
theorem nextWork_event {s : State} {e : HostEvent} {rest : List HostEvent} (hr : s.sxp.running = false)
    (hs : s.env.script = e :: rest) : nextWork s = eventWork e { s with env := { s.env with script := rest } } := by
  simp only [nextWork, hr, hs, Bool.false_eq_true, if_false]

theorem decode_regRead {c : DecodeCtx} {off : Word} {r : Reg} (ho : oddOffset off = false) (h : resolve c off = some r) :
    decode c (.regRead off) = .ok (readInstr r) := by
  simp only [decode, ho, h, Bool.false_eq_true, if_false]

theorem decode_regWrite {c : DecodeCtx} {off : Word} {r : Reg} (ho : oddOffset off = false) (h : resolve c off = some r)
    (v : Word) : decode c (.regWrite off v) = .ok (writeInstr v r) := by
  simp only [decode, ho, h, Bool.false_eq_true, if_false]

/-! ### The storing registers -/

/-- The registers with `v` stored in the storing register `r`; `exec_writeInstr_stored` ties it to the model. -/
def storeReg (v : Word) (r : Reg) (x : Regs) : Regs :=
  match r with
  | .conf0 => { x with conf0 := v }
  | .conf1 => { x with conf1 := v }
  | .flashAddr => { x with flashAddr := v }
  | .riscPsr => { x with riscPsr := v }
  | .riscPc => { x with riscPc := v }
  | .riscMtr => { x with riscMtr := v }
  | .gpioData => { x with gpioData := v }
  | .gpioEnable => { x with gpioEnable := v }
  | .dmaConf c => { x with dma := x.dma.set c { x.dma[c] with conf := v } }
  | .dmaControl c => { x with dma := x.dma.set c { x.dma[c] with control := v } }
  | .dmaAddr c j => { x with dma := x.dma.set c { x.dma[c] with addr := x.dma[c].addr.set j v } }
  | .idLo | .idHi | .icr | .isr | .sema | .nvram | .flashData | .pioPort | .mbox _ | .hccr | .pinsDiff _
  | .dmaStatus _ | .dmaFifo _ => x

theorem exec_writeInstr_stored {s : State} {r : Reg} (h : (storedValue s.reg r).isSome = true) (v : Word) :
    exec (writeInstr v r) s = .next { s with reg := storeReg v r s.reg } := by
  cases r
  case conf0 | conf1 | flashAddr | riscPsr | riscPc | riscMtr | gpioData | gpioEnable => rfl
  case dmaConf c | dmaControl c =>
    match c with
    | 0 | 1 => rfl
  case dmaAddr c j =>
    match c, j with
    | 0, 0 | 0, 1 | 0, 2 | 0, 3 | 1, 0 | 1, 1 | 1, 2 | 1, 3 => rfl
  all_goals exact absurd h (by simp [storedValue])

theorem exec_readInstr_stored {s : State} {r : Reg} {v : Word} (h : storedValue s.reg r = some v) :
    exec (readInstr r) s = .next (returnRead v s) := by
  cases r
  case conf0 | conf1 | flashAddr | riscPsr | riscPc | riscMtr | gpioData | gpioEnable => cases h; rfl
  case dmaConf c | dmaControl c =>
    cases h
    match c with
    | 0 | 1 => rfl
  case dmaAddr c j =>
    cases h
    match c, j with
    | 0, 0 | 0, 1 | 0, 2 | 0, 3 | 1, 0 | 1, 1 | 1, 2 | 1, 3 => rfl
  all_goals exact absurd h (by simp [storedValue])

theorem getElem_set_dma (t : Vector DmaChannel 2) (c c' : Fin 2) (d : DmaChannel) :
    (t.set c d)[c'] = if c' = c then d else t[c'] := by
  simp [Vector.getElem_set, Fin.ext_iff, eq_comm]

theorem getElem_set_addr (t : Vector Word 4) (j j' : Fin 4) (v : Word) :
    (t.set j v)[j'] = if j' = j then v else t[j'] := by
  simp [Vector.getElem_set, Fin.ext_iff, eq_comm]

/-- The register stored to holds the value, and every other storing register what it held: only the registers of the DMA bank
share their place. -/
theorem storedValue_storeReg {x : Regs} {r : Reg} (h : (storedValue x r).isSome = true) (v : Word) (r' : Reg) :
    storedValue (storeReg v r x) r' = if r' = r then some v else storedValue x r' := by
  cases r
  case conf0 | conf1 | flashAddr | riscPsr | riscPc | riscMtr | gpioData | gpioEnable => cases r' <;> rfl
  case dmaConf c | dmaControl c | dmaAddr c _ =>
    cases r'
    case dmaConf c' | dmaControl c' | dmaAddr c' _ =>
      simp only [storeReg, storedValue, getElem_set_dma]
      grind [getElem_set_addr]
    all_goals rfl
  all_goals exact absurd h (by simp [storedValue])

/-! ### Their offsets -/

theorem oddOffset_stored (x : Regs) (g : Gen) (n : OpenNumbers) {r : Reg} (h : (storedValue x r).isSome = true) :
    oddOffset (regOffset g n r) = false := by
  cases r
  case conf0 | conf1 | flashAddr | riscPsr | riscPc | riscMtr | gpioData | gpioEnable =>
    simp only [regOffset]
    decide
  case dmaConf | dmaControl | dmaAddr =>
    clear h
    simp only [regOffset]
    cases g <;> decide +revert
  all_goals exact absurd h (by simp [storedValue])

/-- CONF1 stands at its fixed offset, whatever bank is selected (R121). -/
theorem resolve_conf1 (c : DecodeCtx) : resolve c (regOffset c.gen c.nums .conf1) = some .conf1 := rfl

theorem storeReg_conf1 {r : Reg} (h : r ≠ .conf1) (v : Word) (x : Regs) : (storeReg v r x).conf1 = x.conf1 := by
  cases r
  case conf1 => exact absurd rfl h
  all_goals rfl

/-- A storing register is at its offset after its own write too: only a write of CONF1 selects another bank, and CONF1 is in
none (R203, R206). -/
theorem resolve_storeReg {s : State} {r : Reg}
    (h : resolve (decodeCtx s) (regOffset s.inst.gen s.inst.nums r) = some r) (v : Word) (e : Env) :
    resolve (decodeCtx { s with reg := storeReg v r s.reg, env := e }) (regOffset s.inst.gen s.inst.nums r) = some r := by
  by_cases hr : r = .conf1
  · subst hr
    exact resolve_conf1 _
  · rwa [decodeCtx, storeReg_conf1 hr]

/-! ### Events at their offsets -/

section

variable {s : State} {r : Reg} {rest : List HostEvent} {v : Word} (hf : s.faulted = none) (hr : s.sxp.running = false)
  (hres : resolve (decodeCtx s) (regOffset s.inst.gen s.inst.nums r) = some r)

include hf hr hres

theorem step_write_stored (hs : s.env.script = .write (regOffset s.inst.gen s.inst.nums r) v :: rest)
    (h : (storedValue s.reg r).isSome = true) :
    step s = .next { s with reg := storeReg v r s.reg, env := { s.env with script := rest } } := by
  have even := oddOffset_stored s.reg s.inst.gen s.inst.nums h
  rw [step_of_run hf (nextWork_event hr hs) (decode_regWrite even hres v)]
  exact exec_writeInstr_stored (s := { s with env := { s.env with script := rest } }) h v

theorem step_read_stored (hs : s.env.script = .read (regOffset s.inst.gen s.inst.nums r) :: rest)
    (h : storedValue s.reg r = some v) :
    step s = .next { s with env := { s.env with script := rest, readData := v } } := by
  have even := oddOffset_stored s.reg s.inst.gen s.inst.nums (Option.isSome_of_eq_some h)
  rw [step_of_run hf (nextWork_event hr hs) (decode_regRead even hres)]
  exact exec_readInstr_stored (s := { s with env := { s.env with script := rest } }) h

end

/-- Settles O19: the write leaves the decoding of its own offset alone, so the read comes to the value stored. -/
theorem storedRegisterReadsBack : Obligations.StoredRegisterReadsBack := by
  intro s r v rest hf hr hst hres hs
  have value := storedValue_storeReg hst v
  have stored : storedValue (storeReg v r s.reg) r = some v := (value r).trans (if_pos rfl)
  have written := step_write_stored hf hr hres hs hst
  have read := step_read_stored (rest := rest)
    (s := { s with
      reg := storeReg v r s.reg
      env := { s.env with script := .read (regOffset s.inst.gen s.inst.nums r) :: rest } })
    hf hr (resolve_storeReg hres v _) rfl stored
  exact ⟨_, _, written, read, rfl, stored, fun r' hne => (value r').trans (if_neg hne)⟩

end Sys2Proof.Proofs
end

section
/-! What a pass does once it comes to an idle engine (R401 to R405, R443): it goes on as the `exec` of the instruction that the
engine finds, and `goesOn` holds of it. Before that, the meanings of the two kinds of request that the engine takes itself, by
their encodings. -/

namespace Sys2Proof.Proofs

open Sys2Proof.Machine Sys2Proof.Safety Sys2Proof.Laws

/-! ### The requests that the engine takes -/

/-- A row of the opcode map and a row of the table of rules go together: one opcode, and the instruction runs the rule. -/
def RunsBody (e : Word × Instr) (b : Word × (State → MboxAnswer)) : Prop :=
  e.1 = b.1 ∧ ∀ s, exec e.2 s = .next (resume (takeMailbox b.2 s))

theorem mailboxOps_runsBody (n : OpenNumbers) : List.Forall₂ RunsBody (mailboxOps n) (mailboxBodies n) := by
  simp only [mailboxOps, mailboxBodies, candidateOps, candidateBodies, List.cons_append, List.nil_append]
  repeat refine .cons ⟨rfl, fun _ => rfl⟩ ?_
  exact .nil

/-- The two tables are searched alike. -/
theorem exec_find_runsBody {ops : List (Word × Instr)} {bodies : List (Word × (State → MboxAnswer))}
    (h : List.Forall₂ RunsBody ops bodies) (op : Word) (s : State) :
    exec (match ops.find? fun e => e.1 == op with | some e => e.2 | none => .mboxInvalid op) s =
      .next (resume (takeMailbox
        (match bodies.find? fun e => e.1 == op with | some e => e.2 | none => bodyInvalid) s)) := by
  induction h with
  | nil => rfl
  | @cons e b ops bodies h _ ih =>
    obtain ⟨key, run⟩ := h
    rw [List.find?_cons, List.find?_cons, key]
    cases b.1 == op
    · exact ih
    · exact run s

/-- The instruction of an opcode word takes the command by the rule of that word (R401). -/
theorem exec_mailboxInstr (n : OpenNumbers) (op : Word) (s : State) :
    exec (mailboxInstr n op) s = .next (resume (takeMailbox (mailboxBody n op) s)) :=
  exec_find_runsBody (mailboxOps_runsBody n) op s

/-- The instruction of a descriptor takes it to the state that its type leads to (R402, R405). -/
theorem exec_iocbInstr (o : Origin) (b : List Byte) (s : State) :
    exec (iocbInstr o b) s = .next (resume (accept (dispatchState b) o b s)) := by
  unfold iocbInstr
  repeat' split
  case isFalse =>
    have unknown : dispatchState b = .badPacket := by simp [dispatchState, isCommand, *]
    rw [unknown]
    rfl
  all_goals next type => rw [dispatchState, isCommand, type]; rfl

/-! ### Fuel: the rest of a pass is a whole pass -/

/-- Any fuel that is enough is as good as that of a fresh pass (R450). -/
theorem runPass_eq_resume {k n : Nat} {s : State} (h : endsWithin k s) (hr : s.sxp.running = true) (hn : k ≤ n)
    (hk : k ≤ passFuel) : runPass n s = resume s := by
  rw [resume, ← hr, h n hn, h passFuel hk]

theorem runPass_takeMailbox {body : State → MboxAnswer} {s : State}
    (hb : ∀ s t, body s = .pending t → ∃ d, t = { s with sxp := { s.sxp with directReq := some d } })
    (hs : s.sxp.state = .idle) (hr : s.sxp.running = true) {n : Nat} (hn : 6 ≤ n) :
    runPass n (takeMailbox body s) = resume (takeMailbox body s) := by
  unfold takeMailbox
  split
  · next h =>
    obtain ⟨d, rfl⟩ := hb _ _ h
    exact runPass_eq_resume (endsWithin_idle hs) hr hn (by decide)
  · obtain ⟨m, rfl⟩ := Nat.exists_eq_add_of_le' hn
    rfl

theorem endsWithin_accept (o : Origin) (b : List Byte) (s : State) :
    endsWithin 4 (accept (dispatchState b) o b s) := by
  rw [dispatchState]
  split
  · exact endsWithin_selectDevice rfl
  · exact endsWithin_mono (endsWithin_badPacket rfl) (by decide)

theorem runPass_skipAborted (n : Nat) (slot : Word) (b : List Byte) (s : State) :
    runPass (n + 2) (skipAborted slot b s) = slotSkipped slot b s := by
  rw [skipAborted, runPass_toComplete n (p := ⟨b, .ring slot, true⟩) rfl]
  rfl

/-! ### The search for work does not end the pass -/

theorem memRead_running {s : State} {a : Addr} {n : Nat} {r : Dma (List Byte)} (h : memRead s a n = r) :
    (dmaState r).sxp.running = s.sxp.running := by
  subst h
  rcases memRead_cases s a n with h | h <;> rw [h] <;> rfl

theorem fetchDirect_running (d : DirectReq) (s : State) :
    (fetchState s (fetchDirect d s)).sxp.running = s.sxp.running := by
  simp only [fetchDirect]
  split <;> next h => exact (memRead_running h :)

theorem fetchHead_running (s : State) : (fetchState s (fetchHead s)).sxp.running = s.sxp.running := by
  simp only [fetchHead]
  split
  all_goals split <;> next h => exact (memRead_running h :)

theorem fetch_running {s : State} {r : Fetch} (h : fetch s = r) : (fetchState s r).sxp.running = s.sxp.running := by
  subst h
  unfold fetch
  split
  · exact fetchDirect_running _ s
  · split
    · rfl
    · exact fetchHead_running s

/-! ### A pass from an idle engine -/

theorem engineStep_idle {s : State} (h : s.sxp.state = .idle) : engineStep s = stepIdle s := by
  rw [engineStep, h]

section

variable {s : State} (hs : s.sxp.state = .idle) (hr : s.sxp.running = true)

include hs hr

/-- With a mailbox command pending, the pass is that of the command (R401). -/
theorem runPass_idle_command (hc : s.sxp.mboxCmdPending = true) :
    runPass passFuel s = resume (takeMailbox (mailboxBody s.inst.nums s.reg.mbin[0]) s) := by
  have takes : engineStep s = .go _ := (engineStep_idle hs).trans (if_pos hc)
  exact (runPass_go takes).trans (runPass_takeMailbox (fun _ _ => mailboxBody_pending) hs hr (by decide))

/-- With none, the pass is that of what the engine fetches (R402 to R405). -/
theorem runPass_idle_fetch (hc : ¬s.sxp.mboxCmdPending = true) :
    runPass passFuel s =
      match fetch s with
      | .nothing why => endPass why s
      | .descriptor o b t => resume (accept (dispatchState b) o b t)
      | .aborted slot b t => slotSkipped slot b t
      | .dmaError t => raiseFault .dmaFailure t := by
  have steps : engineStep s = _ := (engineStep_idle hs).trans (if_neg hc)
  rcases hf : fetch s with why | ⟨o, b, t⟩ | ⟨slot, b, t⟩ | t <;> rw [hf] at steps
  · exact runPass_suspend steps
  · have running : (accept (dispatchState b) o b t).sxp.running = true := (fetch_running hf).trans hr
    exact (runPass_go steps).trans (runPass_eq_resume (endsWithin_accept o b t) running (by decide) (by decide))
  · exact (runPass_go steps).trans (runPass_skipAborted _ slot b t)
  · exact runPass_fault steps

end

/-- A pass from an idle engine goes on as `goesOn` says (R614). -/
theorem goesOn_resume {p : State} (h : p.sxp.state = .idle) : goesOn p (.next (resume p)) := by
  refine ⟨rfl, ?_⟩
  split
  · next hc =>
    rw [exec_mailboxInstr]
    exact congrArg _ (runPass_idle_command h rfl hc)
  · next hc =>
    have fetched := runPass_idle_fetch (s := { p with sxp := { p.sxp with running := true } }) h rfl hc
    simp only [exec_iocbInstr]
    split <;> next hf =>
      rw [hf] at fetched
      exact congrArg _ fetched

/-- A pass whose first step comes to an idle engine, in the state `p`, goes on from `p` (R443). -/
theorem goesOn_of_step {s p : State} (hp : p.sxp.state = .idle)
    (h : engineStep { s with sxp := { s.sxp with running := true } } =
      .go { p with sxp := { p.sxp with running := true } }) :
    goesOn p (.next (resume s)) := by
  have passes : resume s = resume p := by
    rw [resume, passFuel, runPass_go h]
    exact runPass_idle (s := { p with sxp := { p.sxp with running := true } }) (n := 15) hp (by decide)
  exact passes ▸ goesOn_resume hp

end Sys2Proof.Proofs
end

section
/-! The posting of a ring completion (R441, R443): the fire of its timer, the step that posts, and the bytes of the response
entry (R151). -/

namespace Sys2Proof.Proofs

open Sys2Proof.Machine Sys2Proof.Safety Sys2Proof.Laws

/-! ### The step that posts -/

/-- The fire of `T_SXP` between two passes: the timer is disarmed, and a pass runs (R448). -/
theorem step_fire_sxp {s : State} {rest : List HostEvent} (hf : s.faulted = none) (hr : s.sxp.running = false)
    (hs : s.env.script = .fire .sxp :: rest) (ha : s.sxp.timerArmed = true) :
    step s = .next (resume { s with
      sxp := { s.sxp with timerArmed := false }, env := { s.env with script := rest } }) := by
  refine step_of_go hf ((nextWork_event hr hs).trans ?_)
  simp only [eventWork, timerArmed, ha, if_true, fireTimer, kick, hr, Bool.false_eq_true, if_false]

/-- A ring completion whose entry the DMA interface takes is posted in one step of the loop (R443). -/
theorem engineStep_postRing {s : State} {r : Response} {q : List Bool} (hs : s.sxp.state = .setRiscInterrupt)
    (ha : s.sxp.timerArmed = false) (hk : s.sxp.postKind = some .ring) (hp : s.sxp.pktResp = some r)
    (hd : s.env.oracle.dma = true :: q) :
    engineStep s = .go (finishPosting (publishReqOut (advanceRespIn { s with env := { s.env with
      oracle := { s.env.oracle with dma := q }
      hostMem := writeBytes s.env.hostMem (slotAddr s.sxp.respBase s.sxp.respIn) (responseBytes r) } }))) := by
  simp only [engineStep, hs, stepSetInterrupt, ha, hk, postByKind, hp, writeResp_granted hd, Bool.false_eq_true, if_false]

/-! ### The bytes of a response entry -/

/-- The two halves of a word are the word (R91). -/
theorem append_halves {n : Nat} (v : BitVec (n + n)) : v.extractLsb' n n ++ v.extractLsb' 0 n = v := by
  rw [BitVec.extractLsb'_append_extractLsb'_eq_extractLsb' (by omega)]
  exact BitVec.extractLsb'_eq_self

/-- The fields of a response entry stand at the offsets of R151. -/
theorem responseBytes_fields (r : Response) :
    byteAt (responseBytes r) 0 = Param.etResp ∧ byteAt (responseBytes r) 1 = 1 ∧ byteAt (responseBytes r) 2 = r.sequence
      ∧ byteAt (responseBytes r) 3 = r.hflags ∧ le32 (responseBytes r) 4 = r.handle
      ∧ le16 (responseBytes r) 8 = r.scsiStatus ∧ le16 (responseBytes r) 10 = r.completionStatus
      ∧ le16 (responseBytes r) 12 = r.stateFlags ∧ le16 (responseBytes r) 14 = r.statusFlags
      ∧ le16 (responseBytes r) 16 = r.time ∧ le16 (responseBytes r) 18 = r.senseLen
      ∧ le32 (responseBytes r) 20 = r.residual := by
  simp only [responseBytes, put32, put16, List.cons_append, List.nil_append, le32, le16, byteAt, List.getD_cons_succ,
    List.getD_cons_zero, append_halves (n := 8), append_halves (n := 16), and_self]

theorem byteAt_append_left {a : List Byte} {j : Nat} (h : j < a.length) (b : List Byte) :
    byteAt (a ++ b) j = byteAt a j := List.getD_append _ _ _ _ h

theorem byteAt_append_right {a : List Byte} {n : Nat} (h : a.length = n) (b : List Byte) (j : Nat) :
    byteAt (a ++ b) (n + j) = byteAt b j := by
  subst h
  rw [byteAt, List.getD_append_right _ _ _ _ (Nat.le_add_right _ _), Nat.add_sub_cancel_left, byteAt]

theorem byteAt_replicate_zero (n j : Nat) : byteAt (List.replicate n 0) j = 0 := by
  rw [byteAt, List.getD_eq_getElem?_getD, List.getElem?_replicate]
  split <;> rfl

/-- The sense area holds the sense data, of which it takes 32 bytes, and zeros after it (R151). -/
theorem byteAt_senseBytes (l : List Byte) {j : Nat} (h : j < 32) : byteAt (senseBytes l) j = l.getD j 0 := by
  by_cases hj : j < l.length
  · have taken : j < (l.take Param.senseMax).length := by
      rw [List.length_take]
      exact Nat.lt_min.2 ⟨h, hj⟩
    rw [senseBytes, byteAt_append_left taken]
    simp [byteAt, Param.senseMax, h]
  · have whole : (l.take Param.senseMax).length = l.length := by
      rw [List.length_take]
      exact Nat.min_eq_right ((Nat.le_of_not_lt hj).trans h.le)
    obtain ⟨k, rfl⟩ := Nat.exists_eq_add_of_le (Nat.le_of_not_lt hj)
    rw [senseBytes, byteAt_append_right whole, byteAt_replicate_zero]
    simp

/-- A response entry is 24 bytes of fields, 8 zeros and the sense area (R151). -/
theorem responseBytes_parts (r : Response) :
    ∃ fields : List Byte, fields.length = 24
      ∧ responseBytes r = fields ++ (List.replicate 8 0 ++ senseBytes r.sense) :=
  ⟨_, rfl, List.append_assoc _ _ _⟩

theorem byteAt_responseBytes_reserved (r : Response) {j : Nat} (h : j < 8) : byteAt (responseBytes r) (24 + j) = 0 := by
  obtain ⟨fields, len, parts⟩ := responseBytes_parts r
  rw [parts, byteAt_append_right len, byteAt_append_left (by rwa [List.length_replicate]), byteAt_replicate_zero]

theorem byteAt_responseBytes_sense (r : Response) {j : Nat} (h : j < 32) :
    byteAt (responseBytes r) (32 + j) = r.sense.getD j 0 := by
  obtain ⟨fields, len, parts⟩ := responseBytes_parts r
  rw [parts, Nat.add_assoc 24 8 j, byteAt_append_right len, byteAt_append_right List.length_replicate,
    byteAt_senseBytes _ h]

/-! ### The statement -/

/-- Settles O49: the fire of the timer posts the entry in one step of the pass, which leaves the engine idle. -/
theorem ringCompletionPosting : Obligations.RingCompletionPosting := by
  intro s rest r q hm hf hr hs ha hst hk hp hd
  obtain ⟨host, -, -⟩ := (memoriesWf_iff s).1 hm
  refine ⟨⟨_, ?posted, storedAt_writeBytes host.1 _ (by simp)⟩, ?entry⟩
  case posted =>
    have posts := engineStep_postRing (r := r) (q := q)
      (s := { s with sxp := { s.sxp with timerArmed := false, running := true }, env := { s.env with script := rest } })
      hst rfl hk hp hd
    rw [step_fire_sxp hf hr hs ha]
    exact goesOn_of_step rfl posts
  case entry =>
    rintro e rfl
    obtain ⟨type, count, sequence, hflags, handle, scsi, completion, state, status, time, senseLen, residual⟩ :=
      responseBytes_fields r
    exact ⟨length_responseBytes r, type, count, sequence, hflags, handle, scsi, completion, state, status, time, senseLen,
      residual, fun _ => byteAt_responseBytes_reserved r, fun _ => byteAt_responseBytes_sense r⟩

end Sys2Proof.Proofs
end

section
/-! The encodings (R120 to R161): each table answers a key with its entry, a register stands at one place of its bank, and so
decoding and encoding are inverse to each other. -/

namespace Sys2Proof.Proofs

open Sys2Proof.Machine Sys2Proof.Laws

/-! ### Tables searched by a key -/

/-- In a table that has no key twice, the search for an entry's key finds the entry. -/
theorem find?_key_of_mem {κ α : Type} [BEq κ] [LawfulBEq κ] {t : List (κ × α)} (ht : (t.map (·.1)).Nodup)
    {k : κ} {a : α} (h : (k, a) ∈ t) : (t.find? fun e => e.1 == k) = some (k, a) := by
  induction t with
  | nil => cases h
  | cons x t ih =>
    obtain ⟨fresh, distinct⟩ := List.nodup_cons.1 ht
    rcases List.mem_cons.1 h with rfl | h
    · exact List.find?_cons_of_pos (beq_self_eq_true _)
    · have other : x.1 ≠ k := fun hk => fresh (List.mem_map.2 ⟨_, h, hk.symm⟩)
      rw [List.find?_cons_of_neg (by simpa using other), ih distinct h]

/-- What the search for a key finds is an entry with that key. -/
theorem mem_of_find?_key {κ α : Type} [BEq κ] [LawfulBEq κ] {t : List (κ × α)} {k : κ} {e : κ × α}
    (h : (t.find? fun e => e.1 == k) = some e) : e ∈ t ∧ e.1 = k :=
  ⟨List.mem_of_find?_eq_some h, by simpa using List.find?_some h⟩

theorem lookupReg_eq_some_of_mem {t : List (Word × Reg)} (ht : (t.map (·.1)).Nodup) {off : Word} {r : Reg}
    (h : (off, r) ∈ t) : lookupReg t off = some r := by
  rw [lookupReg, find?_key_of_mem ht h, Option.map_some]

theorem mem_of_lookupReg_eq_some {t : List (Word × Reg)} {off : Word} {r : Reg} (h : lookupReg t off = some r) :
    (off, r) ∈ t := by
  obtain ⟨e, he, rfl⟩ := Option.map_eq_some_iff.1 h
  obtain ⟨mem, rfl⟩ := mem_of_find?_key he
  exact mem

/-! ### The places of the registers -/

/-- The bank that a register stands in, none for a fixed register; `mem_fixedRegs` and `mem_bankRegs` tie it to the tables. -/
def homeBank : Reg → Option Bank
  | .idLo | .idHi | .conf0 | .conf1 | .icr | .isr | .sema | .nvram | .flashData | .flashAddr | .pioPort | .mbox _ => none
  | .riscPsr | .riscPc | .riscMtr | .hccr | .gpioData | .gpioEnable => some .risc
  | .pinsDiff b => some (.sxp b)
  | .dmaConf _ | .dmaControl _ | .dmaStatus _ | .dmaFifo _ | .dmaAddr _ _ => some .dma

/-- The base of the window through which a bank is reached (R122, R123). -/
def bankBase (g : Gen) : Bank → Word
  | .risc | .sxp _ => Param.bankWinBase
  | .dma => dmaBase g

/-- A context reaches a bank (R203). -/
def bankReached (c : DecodeCtx) : Bank → Bool
  | .risc => bankSel c == .risc
  | .sxp b => bankSel c == .sxp b
  | .dma => dmaReachable c

/-- A context reaches a register: a fixed one always, another with its bank (R120). -/
def regReached (c : DecodeCtx) (r : Reg) : Bool := ((homeBank r).map (bankReached c)).getD true

theorem mem_fixedRegs {g : Gen} {n : OpenNumbers} {off : Word} {r : Reg} :
    (off, r) ∈ fixedRegs n ↔ homeBank r = none ∧ off = regOffset g n r := by
  cases r <;> simp [fixedRegs, candidateRegs, homeBank, regOffset, eq_comm]

theorem mem_riscRegs {g : Gen} {n : OpenNumbers} {sub : Word} {r : Reg} :
    (sub, r) ∈ riscRegs ↔ homeBank r = some .risc ∧ Param.bankWinBase + sub = regOffset g n r := by
  cases r <;> simp [riscRegs, homeBank, regOffset]

theorem mem_dmaRegs {g : Gen} {n : OpenNumbers} {sub : Word} {r : Reg} :
    (∃ ch, (sub, r) ∈ dmaChannelRegs ch) ↔ homeBank r = some .dma ∧ dmaBase g + sub = regOffset g n r := by
  cases r <;> simp [dmaChannelRegs, homeBank, regOffset, BitVec.add_assoc, eq_comm]

/-- A bank's table holds the bank's registers, each at its offset from the base of the window (R127). -/
theorem mem_bankRegs {g : Gen} {n : OpenNumbers} {b : Bank} {sub : Word} {r : Reg} :
    (sub, r) ∈ bankRegs n b ↔ homeBank r = some b ∧ bankBase g b + sub = regOffset g n r := by
  cases b with
  | risc => exact mem_riscRegs
  | sxp b => cases r <;> simp [bankRegs, homeBank, bankBase, regOffset, and_comm, eq_comm]
  | dma =>
    refine Iff.trans ?_ mem_dmaRegs
    rw [bankRegs, List.mem_append, Fin.exists_fin_two]

/-- How many bytes of its window a bank can use in either generation (R122, R123). -/
def bankSize : Bank → Nat
  | .risc | .sxp _ => Param.bankWinSize
  | .dma => Param.dmaWinSize

theorem openNumbers_legal_iff {g : Gen} {n : OpenNumbers} :
    n.legal g = true ↔ fixedOffsetsLegal g n = true ∧ oddOffset n.pinsDiff = false
      ∧ n.pinsDiff.toNat < Param.bankWinSize ∧ ∀ e ∈ candidateOps, e.1 ≠ n.readFour := by
  simp [OpenNumbers.legal, and_assoc]

theorem fixedOffsetsLegal_iff {g : Gen} {n : OpenNumbers} :
    fixedOffsetsLegal g n = true ↔ ((fixedRegs n).map (·.1)).Nodup
      ∧ ∀ e ∈ fixedRegs n, oddOffset e.1 = false ∧ inBankWindow g e.1 = false := by
  simp [fixedOffsetsLegal, and_comm]

theorem bankRegs_keys_nodup (n : OpenNumbers) (b : Bank) : ((bankRegs n b).map (·.1)).Nodup := by
  cases b with
  | risc => change (riscRegs.map (·.1)).Nodup; decide
  | sxp b => exact List.nodup_singleton _
  | dma => change ((dmaChannelRegs 0 ++ dmaChannelRegs 1).map (·.1)).Nodup; decide

/-- The sub-offsets of a bank's registers are even and inside its window (R120, R127). -/
theorem bankRegs_inside {g : Gen} {n : OpenNumbers} (hl : n.legal g = true) (b : Bank) :
    ∀ e ∈ bankRegs n b, oddOffset e.1 = false ∧ e.1.toNat < bankSize b := by
  obtain ⟨-, even, inside, -⟩ := openNumbers_legal_iff.1 hl
  cases b with
  | risc => change ∀ e ∈ riscRegs, _; decide
  | sxp b => simpa [bankRegs] using ⟨even, inside⟩
  | dma => change ∀ e ∈ dmaChannelRegs 0 ++ dmaChannelRegs 1, _; decide

/-! ### Windows -/

theorem oddOffset_add {base : Word} (h : oddOffset base = false) (sub : Word) : oddOffset (base + sub) = oddOffset sub := by
  simp only [oddOffset, BitVec.getLsbD, Nat.testBit_zero, decide_eq_false_iff_not, decide_eq_decide, BitVec.toNat_add] at *
  omega

theorem bankBase_even (g : Gen) (b : Bank) : oddOffset (bankBase g b) = false := by
  cases b with
  | risc | sxp b => change oddOffset Param.bankWinBase = false; decide
  | dma => cases g <;> decide

/-- The switchable window of GEN_OLD shows the RISC or the SXP bank alone (R122). -/
theorem bankSel_old_ne_dma {c : DecodeCtx} (h : c.gen = .old) : bankSel c ≠ .dma := by
  simp only [bankSel, h]
  split <;> simp

theorem bankReached_bankSel (c : DecodeCtx) : bankReached c (bankSel c) = true := by
  cases h : bankSel c <;> simp [bankReached, dmaReachable, h]

theorem bankBase_bankSel (c : DecodeCtx) : bankBase c.gen (bankSel c) = Param.bankWinBase := by
  cases hg : c.gen with
  | old =>
    have := bankSel_old_ne_dma hg
    cases hb : bankSel c <;> simp_all [bankBase]
  | new => cases bankSel c <;> rfl

/-- An offset that comes to a bank is in the window of a bank that the context reaches (R122, R123, R203). -/
theorem bankOf_eq_some {c : DecodeCtx} {off sub : Word} {b : Bank} (h : bankOf c off = some (b, sub)) :
    bankReached c b = true ∧ bankBase c.gen b + sub = off := by
  unfold bankOf at h
  split at h
  · next hw =>
    obtain ⟨rfl, rfl⟩ : Bank.dma = b ∧ _ = sub := by simpa using h
    obtain ⟨old, -⟩ : c.gen = .old ∧ _ := by simpa using hw
    simp [bankReached, dmaReachable, bankBase, dmaBase, old]
  · split at h
    · obtain ⟨rfl, rfl⟩ : bankSel c = b ∧ _ = sub := by simpa using h
      rw [bankBase_bankSel, BitVec.add_comm, BitVec.sub_add_cancel]
      exact ⟨bankReached_bankSel c, rfl⟩
    · cases h

theorem inWindow_add {base sub : Word} {size : Nat} (hb : base.toNat + size ≤ 2 ^ 16) (h : sub.toNat < size) :
    inWindow base size (base + sub) = true := by
  simp only [inWindow, BitVec.toNat_add, Bool.and_eq_true, decide_eq_true_eq]
  omega

theorem bankOf_dmaWindow {c : DecodeCtx} (h : c.gen = .old) {sub : Word} (hs : sub.toNat < Param.dmaWinSize) :
    bankOf c (Param.dmaWinBase + sub) = some (.dma, sub) := by
  have inside : inWindow Param.dmaWinBase Param.dmaWinSize (Param.dmaWinBase + sub) = true := inWindow_add (by decide) hs
  simp [bankOf, h, inside]

theorem bankOf_bankWindow (c : DecodeCtx) {sub : Word} (hs : sub.toNat < Param.bankWinSize) :
    bankOf c (Param.bankWinBase + sub) = some (bankSel c, sub) := by
  have inside : inWindow Param.bankWinBase Param.bankWinSize (Param.bankWinBase + sub) = true :=
    inWindow_add (by decide) hs
  have apart : inWindow Param.dmaWinBase Param.dmaWinSize (Param.bankWinBase + sub) = false := by
    have above : (Param.bankWinBase + sub).toNat = 0x80 + sub.toNat := by
      rw [BitVec.toNat_add]
      exact Nat.mod_eq_of_lt (Nat.add_lt_add_left (hs.trans (by decide : 0x80 < 0xFF80)) 0x80)
    have end_le : Param.dmaWinBase.toNat + Param.dmaWinSize ≤ 0x80 + sub.toNat :=
      (by decide : Param.dmaWinBase.toNat + Param.dmaWinSize ≤ 0x80).trans (Nat.le_add_right _ _)
    rw [inWindow, above, Bool.and_eq_false_iff]
    exact .inr (decide_eq_false (Nat.not_lt.2 end_le))
  simp [bankOf, inside, apart]

/-- A sub-offset inside the window of a bank that the context reaches comes to that bank (R122, R123, R203). -/
theorem bankOf_bankBase {c : DecodeCtx} {b : Bank} (hb : bankReached c b = true) {sub : Word} (hs : sub.toNat < bankSize b) :
    bankOf c (bankBase c.gen b + sub) = some (b, sub) := by
  cases b with
  | risc | sxp b =>
    have selected := eq_of_beq hb
    simpa [bankBase, selected] using bankOf_bankWindow c hs
  | dma =>
    cases hg : c.gen with
    | old => exact bankOf_dmaWindow hg hs
    | new =>
      have selected : bankSel c = .dma := by simpa [bankReached, dmaReachable, hg] using hb
      have wide : sub.toNat < Param.bankWinSize := hs.trans_le (by decide)
      simpa [bankBase, dmaBase, selected] using bankOf_bankWindow c wide

/-! ### Resolving an offset -/

theorem regReached_of_home {c : DecodeCtx} {r : Reg} {b : Bank} (h : homeBank r = some b) :
    regReached c r = bankReached c b := by
  simp [regReached, h]

/-- An offset that names a register is that register's, and the context reaches it (R120). -/
theorem resolve_eq_some {c : DecodeCtx} {off : Word} {r : Reg} (h : resolve c off = some r) :
    regReached c r = true ∧ regOffset c.gen c.nums r = off := by
  unfold resolve at h
  split at h
  · next found =>
    obtain ⟨home, place⟩ := mem_fixedRegs (g := c.gen).1 (mem_of_lookupReg_eq_some found)
    obtain rfl := Option.some.inj h
    exact ⟨by simp [regReached, home], place.symm⟩
  · split at h
    · next b sub reached =>
      obtain ⟨home, place⟩ := mem_bankRegs (g := c.gen).1 (mem_of_lookupReg_eq_some h)
      obtain ⟨hb, base⟩ := bankOf_eq_some reached
      exact ⟨(regReached_of_home home).trans hb, place.symm.trans base⟩
    · cases h

/-- A register that the context reaches is what its even offset names: of the fixed offsets none is in a window (R120,
R121). -/
theorem resolve_regOffset {c : DecodeCtx} (hl : c.nums.legal c.gen = true) {r : Reg} (hr : regReached c r = true) :
    oddOffset (regOffset c.gen c.nums r) = false ∧ resolve c (regOffset c.gen c.nums r) = some r := by
  obtain ⟨distinct, outside⟩ := fixedOffsetsLegal_iff.1 (openNumbers_legal_iff.1 hl).1
  cases home : homeBank r with
  | none =>
    have row := mem_fixedRegs (g := c.gen) (n := c.nums).2 ⟨home, rfl⟩
    refine ⟨(outside _ row).1, ?_⟩
    rw [resolve, lookupReg_eq_some_of_mem distinct row]
  | some b =>
    rw [regReached_of_home home] at hr
    obtain ⟨sub, place⟩ : ∃ sub, bankBase c.gen b + sub = regOffset c.gen c.nums r :=
      ⟨regOffset c.gen c.nums r - bankBase c.gen b, by rw [BitVec.add_comm, BitVec.sub_add_cancel]⟩
    have row := mem_bankRegs (n := c.nums).2 ⟨home, place⟩
    obtain ⟨even, inside⟩ := bankRegs_inside hl b _ row
    have reached := bankOf_bankBase hr inside
    rw [place] at reached
    refine ⟨by rwa [← place, oddOffset_add (bankBase_even _ _)], ?_⟩
    have notFixed : lookupReg (fixedRegs c.nums) (regOffset c.gen c.nums r) = none := by
      refine Option.eq_none_iff_forall_ne_some.2 fun r' found => ?_
      have window := (bankOf_eq_none c _).2 (outside _ (mem_of_lookupReg_eq_some found)).2
      rw [reached] at window
      cases window
    rw [resolve, notFixed, reached]
    exact lookupReg_eq_some_of_mem (bankRegs_keys_nodup _ _) row

/-! ### Accesses -/

/-- The rows of HCCR's commands: each encodes to its code, and is well-formed where HCCR is reached (R126). -/
theorem hccrCommands_spec (c : DecodeCtx) : ∀ e ∈ hccrCommands, ∀ low,
    (e.2 low).wf c = regReached c .hccr ∧ encode c (e.2 low) = .regWrite (regOffset c.gen c.nums .hccr) (e.1 ++ low) := by
  simp only [hccrCommands, List.forall_mem_cons, List.not_mem_nil, false_implies, implies_true, and_true]
  and_intros <;> exact fun _ => ⟨rfl, rfl⟩

theorem hccr_code_append (cmd : BitVec 4) (low : BitVec 12) : (cmd ++ low).extractLsb' Param.hccrCmdLo 4 = cmd :=
  BitVec.extractLsb'_append_eq_left

theorem hccr_low_append (cmd : BitVec 4) (low : BitVec 12) : (cmd ++ low).extractLsb' 0 12 = low :=
  BitVec.extractLsb'_append_eq_right

theorem hccrInstr_of_mem {cmd : BitVec 4} {f : BitVec 12 → Instr} (h : (cmd, f) ∈ hccrCommands) (low : BitVec 12) :
    hccrInstr (cmd ++ low) = f low := by
  have found := find?_key_of_mem (by decide) h
  simp only [hccrInstr, hccr_code_append, hccr_low_append, found]

theorem hccrInstr_undefined {cmd : BitVec 4} (h : ∀ e ∈ hccrCommands, e.1 ≠ cmd) (low : BitVec 12) :
    hccrInstr (cmd ++ low) = .hccrUndefined cmd low := by
  have fresh : (hccrCommands.find? fun e => e.1 == cmd) = none := List.find?_eq_none.2 (by simpa using h)
  simp only [hccrInstr, hccr_code_append, hccr_low_append, fresh]

/-- A write of HCCR is well-formed where HCCR is reached, and encodes to itself: the code and the ignored bits are the whole
word (R126, R221). -/
theorem hccrInstr_spec (c : DecodeCtx) (v : Word) :
    (hccrInstr v).wf c = regReached c .hccr ∧ encode c (hccrInstr v) = .regWrite (regOffset c.gen c.nums .hccr) v := by
  obtain ⟨cmd, low, rfl⟩ : ∃ (cmd : BitVec 4) (low : BitVec 12), cmd ++ low = v :=
    ⟨v.extractLsb' 12 4, v.extractLsb' 0 12,
      (BitVec.extractLsb'_append_extractLsb'_eq_extractLsb' (start₁ := 0) rfl).trans BitVec.extractLsb'_eq_self⟩
  by_cases h : ∃ f, (cmd, f) ∈ hccrCommands
  · obtain ⟨f, row⟩ := h
    rw [hccrInstr_of_mem row]
    exact hccrCommands_spec c _ row low
  · have fresh : ∀ e ∈ hccrCommands, e.1 ≠ cmd := fun e he hk => h ⟨e.2, hk ▸ he⟩
    rw [hccrInstr_undefined fresh]
    refine ⟨?_, rfl⟩
    have all : (hccrCommands.all fun e => e.1 != cmd) = true := by simpa using fresh
    rw [Instr.wf, all, Bool.and_true]
    rfl

theorem readMboxInstr_spec (c : DecodeCtx) (i : Fin 8) :
    (readMboxInstr i).wf c = true ∧ encode c (readMboxInstr i) = .regRead (regOffset c.gen c.nums (.mbox i)) :=
  match i with
  | 0 | 1 | 2 | 3 | 4 | 5 | 6 | 7 => ⟨rfl, rfl⟩

theorem writeMboxInstr_spec (c : DecodeCtx) (i : Fin 8) (v : Word) :
    (writeMboxInstr i v).wf c = true ∧ encode c (writeMboxInstr i v) = .regWrite (regOffset c.gen c.nums (.mbox i)) v :=
  match i with
  | 0 | 1 | 2 | 3 | 4 | 5 | 6 | 7 => ⟨rfl, rfl⟩

theorem dmaAddrInstr_spec (c : DecodeCtx) (ch : Fin 2) (j : Fin 4) (w : Option Word) :
    (dmaAddrInstr ch j w).wf c = dmaReachable c
      ∧ encode c (dmaAddrInstr ch j w) = encodeAccess (regOffset c.gen c.nums (.dmaAddr ch j)) w :=
  match ch, j with
  | 0, 0 | 0, 1 | 0, 2 | 0, 3 | 1, 0 | 1, 1 | 1, 2 | 1, 3 => ⟨rfl, rfl⟩

/-- The read of a register is well-formed where the register is reached, and encodes to a read at its offset. -/
theorem readInstr_spec (c : DecodeCtx) (r : Reg) :
    (readInstr r).wf c = regReached c r ∧ encode c (readInstr r) = .regRead (regOffset c.gen c.nums r) := by
  cases r with
  | mbox i => exact readMboxInstr_spec c i
  | dmaConf ch | dmaControl ch | dmaStatus ch | dmaFifo ch =>
    match ch with
    | 0 | 1 => exact ⟨rfl, rfl⟩
  | dmaAddr ch j => exact dmaAddrInstr_spec c ch j none
  | _ => exact ⟨rfl, rfl⟩

/-- The write of a register is well-formed where the register is reached, and encodes to a write at its offset. -/
theorem writeInstr_spec (c : DecodeCtx) (r : Reg) (v : Word) :
    (writeInstr v r).wf c = regReached c r ∧ encode c (writeInstr v r) = .regWrite (regOffset c.gen c.nums r) v := by
  cases r with
  | mbox i => exact writeMboxInstr_spec c i v
  | hccr => exact hccrInstr_spec c v
  | dmaConf ch | dmaControl ch | dmaStatus ch | dmaFifo ch =>
    match ch with
    | 0 | 1 => exact ⟨rfl, rfl⟩
  | dmaAddr ch j => exact dmaAddrInstr_spec c ch j (some v)
  | _ => exact ⟨rfl, rfl⟩

/-- An access to a register that its offset names is well-formed, and encodes to that offset. -/
theorem access_spec {c : DecodeCtx} {off : Word} {r : Reg} {i : Instr} {access : Word → Request}
    (found : resolve c off = some r)
    (h : i.wf c = regReached c r ∧ encode c i = access (regOffset c.gen c.nums r)) :
    i.wf c = true ∧ encode c i = access off := by
  obtain ⟨reached, rfl⟩ := resolve_eq_some found
  rwa [reached] at h

theorem unmapped_spec {c : DecodeCtx} {off : Word} (even : ¬ oddOffset off = true) (none : resolve c off = none)
    (w : Option Word) : (Instr.accessUnmapped off w).wf c = true ∧ encode c (.accessUnmapped off w) = encodeAccess off w :=
  ⟨by simp [Instr.wf, even, none], rfl⟩

/-! ### Mailbox commands, descriptors and flash cycles -/

/-- The rows of the opcode map: each is well-formed and encodes to its opcode (R135). -/
theorem mailboxOps_spec (c : DecodeCtx) : ∀ e ∈ mailboxOps c.nums, e.2.wf c = true ∧ encode c e.2 = .mailbox e.1 := by
  simp only [mailboxOps, candidateOps, List.cons_append, List.nil_append, List.forall_mem_cons, List.not_mem_nil,
    false_implies, implies_true, and_true]
  and_intros <;> rfl

theorem mailboxOps_keys_nodup {g : Gen} {n : OpenNumbers} (hl : n.legal g = true) : ((mailboxOps n).map (·.1)).Nodup := by
  obtain ⟨-, -, -, fresh⟩ := openNumbers_legal_iff.1 hl
  have candidates : (candidateOps.map (·.1)).Nodup := by decide
  rw [mailboxOps, List.map_append]
  refine List.nodup_append.2 ⟨candidates, List.nodup_singleton _, fun k hk k' hk' => ?_⟩
  obtain ⟨e, he, rfl⟩ := List.mem_map.1 hk
  obtain rfl := List.mem_singleton.1 hk'
  exact fresh e he

theorem mailboxInstr_of_mem {g : Gen} {n : OpenNumbers} (hl : n.legal g = true) {op : Word} {i : Instr}
    (h : (op, i) ∈ mailboxOps n) : mailboxInstr n op = i := by
  rw [mailboxInstr, find?_key_of_mem (mailboxOps_keys_nodup hl) h]

theorem mailboxInstr_spec (c : DecodeCtx) (op : Word) :
    (mailboxInstr c.nums op).wf c = true ∧ encode c (mailboxInstr c.nums op) = .mailbox op := by
  unfold mailboxInstr
  split
  · next e found =>
    obtain ⟨row, rfl⟩ := mem_of_find?_key found
    exact mailboxOps_spec c e row
  · next none =>
    exact ⟨by simpa [Instr.wf] using none, rfl⟩

theorem iocbInstr_unknown {b : List Byte} (h : entryType b ∉ entryTypes) (o : Origin) :
    iocbInstr o b = .iocbUnknown o b := by
  simp only [entryTypes, List.mem_cons, List.not_mem_nil, or_false, not_or] at h
  simp [iocbInstr, h]

/-- The instruction of a descriptor of 64 bytes is well-formed, and encodes to the descriptor (R140, R141). -/
theorem iocbInstr_spec (c : DecodeCtx) (o : Origin) {b : List Byte} (h : b.length = Param.iocbSize) :
    (iocbInstr o b).wf c = true ∧ encode c (iocbInstr o b) = .iocb o b := by
  unfold iocbInstr
  repeat' split
  all_goals exact ⟨by simp [Instr.wf, descriptorOf, entryTypes, *], rfl⟩

/-- The rows of the flash's commands: each is a command while the flash takes commands, and encodes to its byte (R161,
R500). -/
theorem flashCommands_spec (c : DecodeCtx) :
    ∀ e ∈ flashCommands, e.2.wf c = !c.programSetup ∧ encode c e.2 = .flashWrite e.1 := by
  simp only [flashCommands, List.forall_mem_cons, List.not_mem_nil, false_implies, implies_true, and_true]
  and_intros <;> rfl

theorem flashInstr_of_mem {d : Byte} {i : Instr} (h : (d, i) ∈ flashCommands) : flashInstr false d = i := by
  rw [flashInstr, if_neg Bool.false_ne_true, find?_key_of_mem (by decide) h]

theorem flashInstr_data {p : Bool} {d : Byte} (h : p = true ∨ ∀ e ∈ flashCommands, e.1 ≠ d) :
    flashInstr p d = .flashProgramData d := by
  cases p with
  | true => rfl
  | false => rw [flashInstr, if_neg Bool.false_ne_true, List.find?_eq_none.2 (by simpa using h)]

theorem flashInstr_spec (c : DecodeCtx) (d : Byte) :
    (flashInstr c.programSetup d).wf c = true ∧ encode c (flashInstr c.programSetup d) = .flashWrite d := by
  unfold flashInstr
  split
  · next data => exact ⟨by simp [Instr.wf, data], rfl⟩
  · next command =>
    split
    · next e found =>
      obtain ⟨row, rfl⟩ := mem_of_find?_key found
      simpa [command] using flashCommands_spec c e row
    · next none =>
      exact ⟨by simpa [Instr.wf, command] using none, rfl⟩

/-! ### The statements -/

/-- Settles O2: what the decoder gives is an entry of the table of its request's kind, found at the request's key. -/
theorem encodeDecodeRoundTrip : Obligations.EncodeDecodeRoundTrip := by
  intro c r i h
  cases r with
  | regRead off =>
    obtain rfl := Except.ok.inj h
    split
    · next odd => exact ⟨odd, rfl⟩
    · next even =>
      split
      · next r found => exact access_spec (access := .regRead) found (readInstr_spec c r)
      · next none => exact unmapped_spec even none _
  | regWrite off v =>
    obtain rfl := Except.ok.inj h
    split
    · next odd => exact ⟨odd, rfl⟩
    · next even =>
      split
      · next r found => exact access_spec (access := (.regWrite · v)) found (writeInstr_spec c r v)
      · next none => exact unmapped_spec even none _
  | mailbox op =>
    obtain rfl := Except.ok.inj h
    exact mailboxInstr_spec c op
  | iocb o b =>
    rw [decode] at h
    split at h
    · next len =>
      obtain rfl := Except.ok.inj h
      exact iocbInstr_spec c o len
    · cases h
  | flashWrite d =>
    obtain rfl := Except.ok.inj h
    exact flashInstr_spec c d
  | flashRead =>
    obtain rfl := Except.ok.inj h
    exact ⟨rfl, rfl⟩

section

variable {c : DecodeCtx}

theorem decode_regOffset_read (hl : c.nums.legal c.gen = true) {r : Reg} (hr : regReached c r = true) :
    decode c (.regRead (regOffset c.gen c.nums r)) = .ok (readInstr r) :=
  decode_regRead (resolve_regOffset hl hr).1 (resolve_regOffset hl hr).2

theorem decode_regOffset_write (hl : c.nums.legal c.gen = true) {r : Reg} (hr : regReached c r = true) (v : Word) :
    decode c (.regWrite (regOffset c.gen c.nums r) v) = .ok (writeInstr v r) :=
  decode_regWrite (resolve_regOffset hl hr).1 (resolve_regOffset hl hr).2 v

/-- A row of the table that stands for reads and writes alike (R230, R231). -/
theorem decode_regOffset_access (hl : c.nums.legal c.gen = true) {r : Reg} (hr : regReached c r = true) {w : Option Word}
    {i : Option Word → Instr} (read : readInstr r = i none) (write : ∀ v, writeInstr v r = i (some v)) :
    decode c (encodeAccess (regOffset c.gen c.nums r) w) = .ok (i w) := by
  cases w with
  | none => rw [← read]; exact decode_regOffset_read hl hr
  | some v => rw [← write]; exact decode_regOffset_write hl hr v

theorem decode_unmapped {off : Word} (even : oddOffset off = false) (none : resolve c off = none) (w : Option Word) :
    decode c (encodeAccess off w) = .ok (.accessUnmapped off w) := by
  cases w <;> simp [encodeAccess, decode, even, none]

theorem decode_hccr (hl : c.nums.legal c.gen = true) (hr : regReached c .hccr = true) {cmd : BitVec 4} {low : BitVec 12}
    {i : Instr} (h : hccrInstr (cmd ++ low) = i) :
    decode c (.regWrite (regOffset c.gen c.nums .hccr) (cmd ++ low)) = .ok i :=
  h ▸ decode_regOffset_write hl hr _

theorem decode_iocb {et : Byte} {b : List Byte} (h : descriptorOf et b = true) (o : Origin) :
    decode c (.iocb o b) = .ok (iocbInstr o b) ∧ entryType b = et := by
  obtain ⟨len, type⟩ : b.length = Param.iocbSize ∧ entryType b = et := by simpa [descriptorOf] using h
  exact ⟨if_pos len, type⟩

end

/-- Settles O1: by the table that an instruction's row stands in. -/
theorem decodeEncodeRoundTrip : Obligations.DecodeEncodeRoundTrip := by
  intro c i hl hw
  cases i with
  | readOdd off | writeOdd off v =>
    have odd : oddOffset off = true := hw
    simp [encode, decode, odd]
  | accessUnmapped off w =>
    obtain ⟨even, none⟩ : oddOffset off = false ∧ resolve c off = none := by simpa [Instr.wf] using hw
    exact decode_unmapped even none w
  | readIdLo | readIdHi | readConf0 | readConf1 | readIcr | readIsr | readSema | readNvram | readFlashData | readFlashAddr
  | readPioPort | readMbox0 | readMbox1 | readMbox2 | readMbox3 | readMbox4 | readMbox5 | readMbox6 | readMbox7
  | readRiscPsr | readRiscPc | readRiscMtr | readGpioData | readGpioEnable | readHccr =>
    exact decode_regOffset_read hl hw
  | writeIdLo v | writeIdHi v | writeConf0 v | writeConf1 v | writeIcr v | writeIsr v | writeSema v | writeNvram v
  | writeFlashData v | writeFlashAddr v | writePioPort v | writeMbox0 v | writeMbox1 v | writeMbox2 v | writeMbox3 v
  | writeMbox4 v | writeMbox5 v | writeMbox6 v | writeMbox7 v | writeRiscPsr v | writeRiscPc v | writeRiscMtr v
  | writeGpioData v | writeGpioEnable v =>
    refine decode_regOffset_write hl ?_ v
    exact hw
  | readSxpPinsDiff b w | accessDmaConf0 w | accessDmaControl0 w | accessDmaStatus0 w | accessDmaFifo0 w | accessDmaAddr00 w
  | accessDmaAddr01 w | accessDmaAddr02 w | accessDmaAddr03 w | accessDmaConf1 w | accessDmaControl1 w | accessDmaStatus1 w
  | accessDmaFifo1 w | accessDmaAddr10 w | accessDmaAddr11 w | accessDmaAddr12 w | accessDmaAddr13 w =>
    refine decode_regOffset_access hl ?_ rfl fun _ => rfl
    exact hw
  | hccrNop low | hccrResetRisc low | hccrPauseRisc low | hccrReleaseRisc low | hccrSingleStep low | hccrSetHostInt low
  | hccrClearHostInt low | hccrClearRiscInt low =>
    exact decode_hccr hl hw (hccrInstr_of_mem (by simp [hccrCommands]) low)
  | hccrUndefined cmd low =>
    obtain ⟨reached, fresh⟩ : bankSel c = .risc ∧ ∀ e ∈ hccrCommands, e.1 ≠ cmd := by simpa [Instr.wf] using hw
    exact decode_hccr hl (beq_iff_eq.2 reached) (hccrInstr_undefined fresh low)
  | mboxReadFourRamWords => exact congrArg _ (mailboxInstr_of_mem hl (by simp [mailboxOps]))
  | mboxInvalid op =>
    have fresh : (mailboxOps c.nums).find? (fun e => e.1 == op) = none := List.find?_eq_none.2 (by simpa [Instr.wf] using hw)
    simp [encode, decode, mailboxInstr, fresh]
  | iocbCmd o b | iocbCont o b | iocbResp o b | iocbMarker o b | iocbCmd64 o b | iocbCont64 o b =>
    obtain ⟨decoded, type⟩ := decode_iocb (c := c) hw o
    exact decoded.trans (by rw [iocbInstr, type]; rfl)
  | iocbUnknown o b =>
    obtain ⟨len, unknown⟩ : b.length = Param.iocbSize ∧ entryType b ∉ entryTypes := by simpa [Instr.wf] using hw
    exact (if_pos len).trans (congrArg _ (iocbInstr_unknown unknown o))
  | flashUnlockAa | flashUnlock55 | flashAutoselect | flashProgram | flashEraseSetup | flashChipErase | flashBlockErase
  | flashReadArray =>
    have command : c.programSetup = false := by simpa [Instr.wf] using hw
    exact congrArg Except.ok (command ▸ flashInstr_of_mem (by simp [flashCommands]))
  | flashProgramData d =>
    exact congrArg Except.ok (flashInstr_data (by simpa [Instr.wf] using hw))
  -- a read cycle of the flash, and the opcodes that have a candidate: found by running the search
  | _ => rfl

/-- Settles O3: the decoder runs on each of the eleven requests. -/
theorem sampleEncodingsDecode : Obligations.SampleEncodingsDecode :=
  ⟨rfl, rfl, rfl, rfl, rfl, rfl, rfl, rfl, rfl, rfl, rfl⟩

end Sys2Proof.Proofs
end

section
/-! The commands that reach their target (R413, R420 to R425): the segments found, the call, the data phase and the response of
one pass, and what a transfer leaves in host memory or takes from it. -/

namespace Sys2Proof.Proofs

open Sys2Proof.Machine Sys2Proof.Safety Sys2Proof.Laws

/-! ### Bytes stored one by one -/

/-- Host memory with `bytes` stored one by one, byte `k` at address `f k`. -/
def storeAlong (f : Nat → Addr) (m : List Host.Cell) : List Byte → List Host.Cell
  | [] => m
  | b :: bs => storeAlong (fun k => f (k + 1)) (Memory.write hostDefault m (f 0).toNat b) bs

theorem storeAlong_append (f : Nat → Addr) (m : List Host.Cell) (xs ys : List Byte) :
    storeAlong f m (xs ++ ys) = storeAlong (fun k => f (k + xs.length)) (storeAlong f m xs) ys := by
  induction xs generalizing f m with
  | nil => rfl
  | cons x xs ih => exact ih _ _

theorem storeAlong_congr {f f' : Nat → Addr} {bytes : List Byte} (h : ∀ k, k < bytes.length → f k = f' k)
    (m : List Host.Cell) : storeAlong f m bytes = storeAlong f' m bytes := by
  induction bytes generalizing f f' m with
  | nil => rfl
  | cons b bs ih =>
    rw [storeAlong, storeAlong, h 0 (Nat.zero_lt_succ _)]
    exact ih (fun k hk => h (k + 1) (Nat.succ_lt_succ hk)) _

/-- An address that no byte is stored at reads as before. -/
theorem read_storeAlong_of_ne {f : Nat → Addr} {m : List Host.Cell} (hm : Memory.wf hostDefault m = true) {bytes : List Byte}
    {x : Nat} (h : ∀ k, k < bytes.length → (f k).toNat ≠ x) :
    Memory.read hostDefault (storeAlong f m bytes) x = Memory.read hostDefault m x := by
  induction bytes generalizing f m with
  | nil => rfl
  | cons b bs ih =>
    rw [storeAlong, ih (memory_wf_write hm _ _) fun k hk => h (k + 1) (Nat.succ_lt_succ hk), memory_read_write hm,
      if_neg (h 0 (Nat.zero_lt_succ _)).symm]

/-- The last byte stored at an address is read back from it. -/
theorem read_storeAlong {f : Nat → Addr} {m : List Host.Cell} (hm : Memory.wf hostDefault m = true) {bytes : List Byte}
    {k : Nat} (hk : k < bytes.length) (last : ∀ k', k < k' → k' < bytes.length → f k' ≠ f k) :
    Memory.read hostDefault (storeAlong f m bytes) (f k).toNat = bytes.getD k 0 := by
  induction bytes generalizing f m k with
  | nil => cases hk
  | cons b bs ih =>
    have wf := memory_wf_write (d := hostDefault) hm (f 0).toNat b
    cases k with
    | zero =>
      have kept : ∀ k, k < bs.length → (f (k + 1)).toNat ≠ (f 0).toNat := fun k hk he =>
        last (k + 1) (Nat.succ_pos k) (Nat.succ_lt_succ hk) (BitVec.eq_of_toNat_eq he)
      rw [storeAlong, read_storeAlong_of_ne wf kept, memory_read_write hm, if_pos rfl, List.getD_cons_zero]
    | succ k =>
      exact ih wf (Nat.lt_of_succ_lt_succ hk) fun k' h h' => last (k' + 1) (Nat.succ_lt_succ h) (Nat.succ_lt_succ h')

theorem add_ofNat_succ (a : Addr) (k : Nat) : a + BitVec.ofNat 64 (k + 1) = a + 1 + BitVec.ofNat 64 k := by
  rw [BitVec.ofNat_add, BitVec.add_comm (BitVec.ofNat 64 k), BitVec.add_assoc]
  rfl

theorem writeBytes_eq_storeAlong (m : List Host.Cell) (a : Addr) (bytes : List Byte) :
    writeBytes m a bytes = storeAlong (fun k => a + BitVec.ofNat 64 k) m bytes := by
  induction bytes generalizing m a with
  | nil => rfl
  | cons b bs ih =>
    have start : a + BitVec.ofNat 64 0 = a := BitVec.add_zero a
    simp only [writeBytes, storeAlong, ih, add_ofNat_succ, start]

/-! ### Bytes over segments -/

theorem segmentBytes_cons (g : Segment) (gs : List Segment) : segmentBytes (g :: gs) = g.count + segmentBytes gs :=
  List.sum_cons

theorem byteAddr_cons_of_lt {g : Segment} {k : Nat} (h : k < g.count) (gs : List Segment) :
    byteAddr (g :: gs) k = g.base + BitVec.ofNat 64 k := if_pos h

theorem byteAddr_cons_add (g : Segment) (gs : List Segment) (k : Nat) :
    byteAddr (g :: gs) (g.count + k) = byteAddr gs k := by
  rw [byteAddr, if_neg (Nat.not_lt.2 (Nat.le_add_right _ _)), Nat.add_sub_cancel_left]

/-- A store over segments that hold the bytes puts byte `k` at the segments' address `k` (R420). -/
theorem storeSegments_eq_storeAlong {segs : List Segment} {bytes : List Byte} (h : bytes.length ≤ segmentBytes segs)
    (m : List Host.Cell) : storeSegments m segs bytes = storeAlong (byteAddr segs) m bytes := by
  induction segs generalizing m bytes with
  | nil =>
    obtain rfl := List.eq_nil_of_length_eq_zero (Nat.le_zero.1 h)
    rfl
  | cons g gs ih =>
    rw [segmentBytes_cons] at h
    have first : storeAlong (byteAddr (g :: gs)) m (bytes.take g.count) = writeBytes m g.base (bytes.take g.count) := by
      rw [writeBytes_eq_storeAlong]
      refine storeAlong_congr (fun k hk => byteAddr_cons_of_lt ?_ gs) m
      exact hk.trans_le (List.length_take_le _ _)
    have later : ∀ k, k < (bytes.drop g.count).length →
        byteAddr (g :: gs) (k + (bytes.take g.count).length) = byteAddr gs k := fun k hk => by
      rw [List.length_drop] at hk
      rw [List.length_take, Nat.min_eq_left (by omega), Nat.add_comm, byteAddr_cons_add]
    calc storeSegments m (g :: gs) bytes
      _ = storeAlong (byteAddr gs) (writeBytes m g.base (bytes.take g.count)) (bytes.drop g.count) :=
        ih (by rw [List.length_drop]; omega) _
      _ = storeAlong (byteAddr (g :: gs)) m (bytes.take g.count ++ bytes.drop g.count) := by
        rw [storeAlong_append, storeAlong_congr later, first]
      _ = storeAlong (byteAddr (g :: gs)) m bytes := by rw [List.take_append_drop]

theorem scatteredOver_storeSegments {m : List Host.Cell} (hm : Memory.wf hostDefault m = true) {segs : List Segment}
    {bytes : List Byte} (h : bytes.length ≤ segmentBytes segs) : scatteredOver m (storeSegments m segs bytes) segs bytes := by
  rw [storeSegments_eq_storeAlong h]
  exact ⟨fun k => read_storeAlong hm, fun x => read_storeAlong_of_ne hm⟩

theorem readBytes_eq_map (m : List Host.Cell) (a : Addr) (n : Nat) :
    readBytes m a n = (List.range n).map fun k => Memory.read hostDefault m (a + BitVec.ofNat 64 k).toNat := by
  induction n generalizing a with
  | zero => rfl
  | succ n ih =>
    have start : a + BitVec.ofNat 64 0 = a := BitVec.add_zero a
    simp only [readBytes, ih, List.range_succ_eq_map, List.map_cons, List.map_map, Function.comp_def, add_ofNat_succ,
      Nat.succ_eq_add_one, start]

/-- A load over segments that hold the bytes takes byte `k` from the segments' address `k` (R420). -/
theorem loadSegments_eq_map {segs : List Segment} {n : Nat} (h : n ≤ segmentBytes segs) (m : List Host.Cell) :
    loadSegments m segs n = (List.range n).map fun k => Memory.read hostDefault m (byteAddr segs k).toNat := by
  induction segs generalizing n with
  | nil =>
    obtain rfl := Nat.le_zero.1 h
    rfl
  | cons g gs ih =>
    rw [segmentBytes_cons] at h
    have first : readBytes m g.base (min g.count n) =
        (List.range (min g.count n)).map fun k => Memory.read hostDefault m (byteAddr (g :: gs) k).toNat := by
      rw [readBytes_eq_map]
      refine List.map_congr_left fun k hk => ?_
      rw [byteAddr_cons_of_lt ((List.mem_range.1 hk).trans_le (Nat.min_le_left _ _))]
    have later : ∀ k ∈ List.range (n - g.count),
        byteAddr (g :: gs) (min g.count n + k) = byteAddr gs k := fun k hk => by
      have := List.mem_range.1 hk
      rw [Nat.min_eq_left (by omega), byteAddr_cons_add]
    have whole : n = min g.count n + (n - g.count) := by omega
    rw [loadSegments, ih (by omega), first]
    conv_rhs => rw [whole, List.range_add, List.map_append, List.map_map]
    exact congrArg _ (List.map_congr_left fun k hk => by rw [Function.comp_apply, later k hk])

/-! ### The segments of a command -/

/-- The DMA answers still to come. -/
def dmaLeft (dq : List Bool) (s : State) : State :=
  { s with env := { s.env with oracle := { s.env.oracle with dma := dq } } }

theorem dmaLeft_self {s : State} {dq : List Bool} (h : s.env.oracle.dma = dq) : dmaLeft dq s = s := by
  subst h
  rfl

/-- The slot that is `j` after the one behind `slot`, in a ring of `len` entries (R425). -/
def continuationSlot (slot len : Word) (j : Nat) : Word := BitVec.ofNat 16 ((slot.toNat + 1 + j) % len.toNat)

theorem ringAdd_continuationSlot (slot len : Word) (j : Nat) :
    ringAdd (continuationSlot slot len j) 1 len = continuationSlot slot len (j + 1) := by
  have bound := len.isLt
  apply BitVec.eq_of_toNat_eq
  simp only [ringAdd, continuationSlot, BitVec.toNat_ofNat, ← Nat.add_assoc]
  rcases Nat.eq_zero_or_pos len.toNat with zero | pos
  · simp only [zero, Nat.mod_zero]
    omega
  · have below := (Nat.mod_lt (slot.toNat + 1 + j) pos).trans bound
    rw [Nat.mod_eq_of_lt below, Nat.mod_add_mod]

/-- The segments in hand after one slot more. -/
theorem take_segmentsAfter_succ (slot : Word) (b : List Byte) (s : State) {k : Nat}
    (h : (segmentsAfter slot b s k).length < (le16 b 18).toNat) :
    (segmentsAfter slot b s k).take (le16 b 18).toNat
        ++ (continuationSegments (continuationBytes slot k s)).take
          ((le16 b 18).toNat - ((segmentsAfter slot b s k).take (le16 b 18).toNat).length)
      = (segmentsAfter slot b s (k + 1)).take (le16 b 18).toNat := by
  have more : segmentsAfter slot b s (k + 1) =
      segmentsAfter slot b s k ++ continuationSegments (continuationBytes slot k s) := by
    simp [segmentsAfter, List.range_succ]
  rw [more, List.take_append, List.take_of_length_le h.le]

/-- The walk goes on over a continuation slot that the DMA interface reads (R425). -/
theorem contWalk_continuation {slot : Word} {b : List Byte} {s : State} {k : Nat}
    (few : (segmentsAfter slot b s k).length < (le16 b 18).toNat) (cont : isContinuation (continuationBytes slot k s) = true)
    (left : Nat) (q : List Bool) :
    contWalk (le16 b 18).toNat (left + 1) (continuationSlot slot s.sxp.reqLen k)
        ((segmentsAfter slot b s k).take (le16 b 18).toNat) (dmaLeft (true :: q) s) =
      contWalk (le16 b 18).toNat left (continuationSlot slot s.sxp.reqLen (k + 1))
        ((segmentsAfter slot b s (k + 1)).take (le16 b 18).toNat) (dmaLeft q s) := by
  have fewer : ((segmentsAfter slot b s k).take (le16 b 18).toNat).length < (le16 b 18).toNat :=
    (List.length_take_le' _ _).trans_lt few
  rw [← take_segmentsAfter_succ _ _ _ few, ← ringAdd_continuationSlot]
  exact contWalk_next fewer rfl (contSegments_some cont)

/-- The walk of a ring command that finds its segments in `n` slots, from its slot `k` on, with `m` of them still to read
(R425). -/
theorem contWalk_found {slot : Word} {b : List Byte} {s : State} {n : Nat} {segs : List Segment} {dq : List Bool}
    (found : segmentsFound (.ring slot) b s n segs) (m : Nat) : ∀ k, k + m = n →
      contWalk (le16 b 18).toNat ((byteAt b 1).toNat - 1 - k) (continuationSlot slot s.sxp.reqLen k)
        ((segmentsAfter slot b s k).take (le16 b 18).toNat) (dmaLeft (List.replicate m true ++ dq) s) =
      .ok segs (dmaLeft dq s) := by
  obtain ⟨enough, reads, ends, rfl⟩ := found
  induction m with
  | zero =>
    rintro k rfl
    refine contWalk_done ?_ _ _
    rcases ends with all | full
    · exact .inl (Nat.sub_eq_zero_of_le all.ge)
    · exact .inr (List.length_take_of_le full).ge
  | succ m ih =>
    intro k hk
    obtain ⟨few, cont⟩ := reads k (by omega)
    have slots : (byteAt b 1).toNat - 1 - k = (byteAt b 1).toNat - 1 - (k + 1) + 1 := by omega
    rw [slots]
    exact (contWalk_continuation few cont _ _).trans (ih (k + 1) (by omega))

/-- The segments of a ring or direct command, all of whose slots the DMA interface reads (R425). -/
theorem sgList_found {o : Origin} {b : List Byte} {s : State} {n : Nat} {segs : List Segment} {dq : List Bool} {skip : Bool}
    (found : segmentsFound o b s n segs) (hd : s.env.oracle.dma = List.replicate n true ++ dq) :
    sgList ⟨b, o, skip⟩ s = .ok segs (dmaLeft dq s) := by
  cases o with
  | bios a => exact absurd found id
  | direct a =>
    obtain ⟨rfl, rfl⟩ := found
    exact congrArg _ (dmaLeft_self hd).symm
  | ring slot =>
    have walk := contWalk_found (dq := dq) found n 0 (Nat.zero_add n)
    rw [dmaLeft_self hd] at walk
    simp only [segmentsAfter, List.range_zero, List.flatMap_nil, List.append_nil, List.take_take, Nat.min_self] at walk
    exact walk

/-! ### The pass of a command -/

/-- The presence answers still to come. -/
def presentLeft (pq : List Bool) (s : State) : State :=
  { s with env := { s.env with oracle := { s.env.oracle with present := pq } } }

/-- The packet of the command `b` is taken, its device selected, and the engine sends it (R413, R420). -/
def sending (o : Origin) (b : List Byte) (s : State) : State :=
  { deviceSelected b s with sxp := { (deviceSelected b s).sxp with
      pkt := some ⟨b, o, false⟩, state := .sendCdb, running := true } }

/-- The target has answered the call of the command `b`, with `rq` of the replies left (R420). -/
def commandAnswered (b : List Byte) (rq : List CommandReply) (s : State) : State :=
  { s with env := { s.env with
      oracle := { s.env.oracle with reply := rq }, calls := commandCall b :: s.env.calls } }

theorem command_wf {c : DecodeCtx} {o : Origin} {b : List Byte} {i : Instr} (hi : i ∈ [Instr.iocbCmd o b, .iocbCmd64 o b])
    (hw : i.wf c = true) : b.length = Param.iocbSize ∧ entryType b ≠ Param.etMarker := by
  simp only [List.mem_cons, List.not_mem_nil, or_false] at hi
  rcases hi with rfl | rfl <;>
  · obtain ⟨len, type⟩ : _ ∧ entryType b = _ := by simpa [Instr.wf, descriptorOf] using hw
    exact ⟨len, by rw [type]; decide⟩

theorem exec_command_eq {o : Origin} {b : List Byte} {i : Instr} (hi : i ∈ [Instr.iocbCmd o b, .iocbCmd64 o b])
    (s : State) : exec i s = .next (resume (accept .selectDevice o b s)) := by
  simp only [List.mem_cons, List.not_mem_nil, or_false] at hi
  rcases hi with rfl | rfl <;> rfl

/-- A device that the block can reach and that is there gets the command (R413). -/
theorem selectCommand_present {b : List Byte} {s : State} {pq : List Bool} (hr : reachable s.inst b = true)
    (hp : s.env.oracle.present = true :: pq) (o : Origin) (skip : Bool) :
    selectCommand ⟨b, o, skip⟩ s = toState .sendCdb (deviceSelected b (presentLeft pq s)) := by
  obtain ⟨path, target⟩ : pathOf b = 0 ∧ (targetOf b).toNat < s.inst.numTargets := by
    rw [reachable, Bool.and_eq_true, beq_iff_eq, decide_eq_true_eq] at hr
    exact hr
  have buses : ¬ numBuses s.inst.buses ≤ (pathOf b).toNat := by
    rw [path]
    cases s.inst.buses <;> decide
  have inRange : ¬ (numBuses s.inst.buses ≤ (pathOf b).toNat ∨ s.inst.numTargets ≤ (targetOf b).toNat ∨ pathOf b ≠ 0) := by
    rintro (h | h | h)
    exacts [buses h, Nat.not_lt.2 h target, h path]
  have drawn : drawPresent (deviceSelected b s) = (true, deviceSelected b (presentLeft pq s)) := drawPresent_cons hp
  simp only [selectCommand, if_neg inRange]
  split
  · next u found =>
    obtain ⟨-, rfl⟩ := Prod.mk.inj (drawn.symm.trans found)
    rfl
  · next u found => cases drawn.symm.trans found

/-- The pass of a command comes to `SendCdb` (R402, R405, R413). -/
theorem exec_command_sending {o : Origin} {b : List Byte} {i : Instr} {s : State} {pq : List Bool}
    (hi : i ∈ [Instr.iocbCmd o b, .iocbCmd64 o b]) (hw : i.wf (decodeCtx s) = true) (hr : reachable s.inst b = true)
    (hp : s.env.oracle.present = true :: pq) : exec i s = .next (runPass 15 (sending o b (presentLeft pq s))) := by
  obtain ⟨-, type⟩ := command_wf hi hw
  rw [exec_command_eq hi, resume]
  congr 1
  have selected := selectCommand_present (b := b)
    (s := { accept .selectDevice o b s with sxp := { (accept .selectDevice o b s).sxp with running := true } }) hr hp o false
  exact runPass_go (n := 15) (congrArg EngineStep.go ((if_neg type).trans selected))

theorem issueCommand_sending {o : Origin} {b : List Byte} {s : State} {a : CommandReply} {rq : List CommandReply}
    (hb : b.length = Param.iocbSize) (hr : s.env.oracle.reply = a :: rq) (skip : Bool) :
    issueCommand ⟨b, o, skip⟩ (sending o b s) = (a, sending o b (commandAnswered b rq s)) := by
  have call : OracleCall.command (targetOf b) (lunOf b) (cdbOf b) = commandCall b := by
    rw [cdbOf_eq (hb ▸ by decide)]
    rfl
  calc issueCommand ⟨b, o, skip⟩ (sending o b s)
    _ = drawReply (recordCall (commandCall b) (sending o b s)) := by rw [← call]; rfl
    _ = (a, sending o b (commandAnswered b rq s)) := drawReply_cons hr

/-- The wait after a completion does not depend on the state in which the engine sent the command. -/
theorem completionWaits_sending (o : Origin) (b : List Byte) (p : Packet) (r : Response) (d : Nat) (s : State) :
    completionWaits p r d (sending o b s) = completionWaits p r d (deviceSelected b s) := by
  match p with
  | ⟨_, .bios _, _⟩ | ⟨_, .direct _, _⟩ | ⟨_, .ring _, _⟩ => rfl

/-- The response of the engine to an executed command is that of R420 and R423. -/
theorem lengthResponse_eq (b : List Byte) (st : Byte) (rate dev host : Nat) :
    { lengthResponse b st dev host (min dev host) with
        stateFlags := executedFlags (min dev host), time := Config.respTime (min dev host) (some rate) } =
      commandResponse b st rate dev host := by
  have residual : residualOf dev host (min dev host) = if dev < host then BitVec.ofNat 32 (host - dev) else 0 := by
    rw [residualOf]
    split
    · next h => rw [Nat.min_eq_left h.le]
    · rfl
  have flags : (if 0 < min dev host then Param.sfXfrdData else 0) = if min dev host = 0 then 0 else Param.sfXfrdData := by
    simp only [Nat.pos_iff_ne_zero, ne_eq, ite_not]
  simp only [lengthResponse, residual, executedFlags, flags]
  rfl

/-- The response to a command without data: complete if the host has no byte for it, else an underrun by all (R420, R423). -/
theorem commandResponse_zero (b : List Byte) (st : Byte) (rate host : Nat) :
    commandResponse b st rate 0 host =
      { freshResponse b with
        scsiStatus := st.zeroExtend 16
        completionStatus := if host = 0 then Param.csComplete else Param.csDataUnderrun
        stateFlags := Param.sfGotBus ||| Param.sfGotTarget ||| Param.sfSentCdb ||| Param.sfGotStatus
          ||| Param.sfXferComplete
        time := Config.respTime 0 (some rate)
        residual := BitVec.ofNat 32 host } := by
  have none : min 0 host = 0 := Nat.zero_min host
  cases host with
  | zero => rfl
  | succ host =>
    simp only [commandResponse, lengthsCompared, none]
    rfl

/-- Only a check condition has sense data (R424). -/
theorem autoSense_of_ne {st : Byte} (h : st ≠ Param.checkCondition) (p : Packet) (r : Response) (s : State) :
    autoSense p st r s = (r, s) := by
  have unwanted : ∀ rf tf, autoSenseWanted st rf tf = false := fun rf tf => by simp [autoSenseWanted, h]
  simp only [autoSense, unwanted, Bool.false_eq_true, if_false]

/-- A command whose slots are read and whose target answers, with no check condition: its data phase moves what it can, and
the completion compares the lengths (R413, R420, R423, R425). -/
theorem exec_command {s t : State} {o : Origin} {b : List Byte} {i : Instr} {ph : Phase} {st : Byte} {rate n : Nat}
    {segs : List Segment} {pq dq : List Bool} {rq : List CommandReply}
    (hi : i ∈ [Instr.iocbCmd o b, .iocbCmd64 o b]) (hw : i.wf (decodeCtx s) = true) (hr : reachable s.inst b = true)
    (found : segmentsFound o b s n segs) (hst : st ≠ Param.checkCondition) (hp : s.env.oracle.present = true :: pq)
    (reply : s.env.oracle.reply = ⟨ph, st, rate⟩ :: rq) (hd : s.env.oracle.dma = List.replicate n true ++ dq)
    (data : dataPhase ph segs (sending o b (commandAnswered b rq (dmaLeft dq (presentLeft pq s)))) =
      .ok (min (phaseLen ph) (segmentBytes segs)) (sending o b t)) :
    exec i s = .next (completionWaits ⟨b, o, false⟩ (commandResponse b st rate (phaseLen ph) (segmentBytes segs))
      (Config.elapsed (min (phaseLen ph) (segmentBytes segs)) rate + Config.mboxOverhead) (deviceSelected b t)) := by
  obtain ⟨len, -⟩ := command_wf hi hw
  rw [exec_command_sending hi hw hr hp]
  congr 1
  have list : sgList ⟨b, o, false⟩ (sending o b (presentLeft pq s)) = .ok segs (sending o b (dmaLeft dq (presentLeft pq s))) :=
    sgList_found (s := sending o b (presentLeft pq s)) found hd
  have issued : issueCommand ⟨b, o, false⟩ (sending o b (dmaLeft dq (presentLeft pq s))) =
      (⟨ph, st, rate⟩, sending o b (commandAnswered b rq (dmaLeft dq (presentLeft pq s)))) :=
    issueCommand_sending (s := dmaLeft dq (presentLeft pq s)) len reply false
  have command : engineStep (sending o b (presentLeft pq s)) =
      sendCommand ⟨b, o, false⟩ (sending o b (presentLeft pq s)) := by
    cases o with
    | bios a => exact absurd found id
    | ring slot | direct a => rfl
  have sent : engineStep (sending o b (presentLeft pq s)) = .go (toComplete
      (commandResponse b st rate (phaseLen ph) (segmentBytes segs))
      (Config.elapsed (min (phaseLen ph) (segmentBytes segs)) rate + Config.mboxOverhead) (sending o b t)) := by
    rw [command, ← lengthResponse_eq]
    simp only [sendCommand, list, issued, data, autoSense_of_ne hst]
    rfl
  rw [runPass_go (n := 14) sent, runPass_toComplete 12 (p := ⟨b, o, false⟩) rfl, completionWaits_sending]

theorem reqOut_completionWaits (b : List Byte) (slot : Word) (skip : Bool) (r : Response) (d : Nat) (s : State) :
    (completionWaits ⟨b, .ring slot, skip⟩ r d s).sxp.reqOut =
      BitVec.ofNat 16 ((s.sxp.reqOut.toNat + max 1 (byteAt b 1).toNat) % s.sxp.reqLen.toNat) := by
  simp only [completionWaits]
  split
  · rfl
  · split <;> rfl

/-! ### The data phase -/

section

variable {o : Origin} {b : List Byte} {segs : List Segment} {s : State} {dq : List Bool}

/-- Data in of which every piece is written (R420). -/
theorem dataPhase_in {bytes : List Byte}
    (hd : s.env.oracle.dma = List.replicate (piecesUsed segs (min bytes.length (segmentBytes segs))) true ++ dq) :
    dataPhase (.dataIn bytes) segs (sending o b s) = .ok (min bytes.length (segmentBytes segs)) (sending o b (dmaLeft dq
      { s with env := { s.env with
        hostMem := storeSegments s.env.hostMem segs (bytes.take (min bytes.length (segmentBytes segs))) } })) := by
  have pieces : (bytes.take (min bytes.length (segmentBytes segs))).length = min bytes.length (segmentBytes segs) :=
    List.length_take_of_le (Nat.min_le_left _ _)
  have stored := scatter_granted (dq := dq) segs (bytes.take (min bytes.length (segmentBytes segs))) (sending o b s)
    (by rw [pieces]; exact hd)
  have moved : hostLen segs = segmentBytes segs := rfl
  simp only [dataPhase, phaseLen, moved, stored]
  rfl

/-- Data out of which every piece is read (R420). -/
theorem dataPhase_out {want : Nat}
    (hd : s.env.oracle.dma = List.replicate (piecesUsed segs (min want (segmentBytes segs))) true ++ dq) :
    dataPhase (.dataOut want) segs (sending o b s) = .ok (min want (segmentBytes segs)) (sending o b (dmaLeft dq
      (recordCall (.dataOut (targetOf b) (loadSegments s.env.hostMem segs (min want (segmentBytes segs)))) s))) := by
  have loaded := gather_granted (dq := dq) segs (min want (segmentBytes segs)) (sending o b s) hd
  have moved : hostLen segs = segmentBytes segs := rfl
  simp only [dataPhase, phaseLen, moved, loaded]
  rfl

end

/-! ### The statements -/

/-- Settles O41: the data phase of a status alone moves nothing. -/
theorem nonDataCommandCompletion : Obligations.NonDataCommandCompletion := by
  intro s o b i st rate n segs pq dq rq hi hw hr found hst hp reply hd host
  have data : dataPhase .statusOnly segs (sending o b (commandAnswered b rq (dmaLeft dq (presentLeft pq s)))) =
      .ok (min (phaseLen .statusOnly) (segmentBytes segs))
        (sending o b (commandAnswered b rq (dmaLeft dq (presentLeft pq s)))) := rfl
  refine ⟨_, exec_command hi hw hr found hst hp reply hd data, ?completion, ?consumer⟩
  case completion =>
    have moved : min 0 (segmentBytes segs) = 0 := Nat.zero_min _
    simp only [phaseLen, commandResponse_zero, moved]
    rfl
  case consumer =>
    rintro slot rfl
    exact reqOut_completionWaits _ _ _ _ _ _

/-- Settles O42: the data phase is a store over the segments. -/
theorem dataInTransfer : Obligations.DataInTransfer := by
  intro s o b i bytes st rate n segs pq dq rq hm hi hw hr found hst hp reply host moved hd
  obtain ⟨hostMem, -, -⟩ := (memoriesWf_iff s).1 hm
  rw [List.replicate_add, List.append_assoc] at hd
  have inside : (bytes.take moved).length ≤ segmentBytes segs := (List.length_take_le _ _).trans (Nat.min_le_right _ _)
  exact ⟨_, exec_command hi hw hr found hst hp reply hd (dataPhase_in rfl), scatteredOver_storeSegments hostMem.1 inside⟩

/-- Settles O43: the data phase is a load over the segments. -/
theorem dataOutTransfer : Obligations.DataOutTransfer := by
  intro s o b i want st rate n segs pq dq rq hi hw hr found hst hp reply host moved hd
  rw [List.replicate_add, List.append_assoc] at hd
  have bytes := loadSegments_eq_map (Nat.min_le_right _ _ : moved ≤ segmentBytes segs) s.env.hostMem
  refine (exec_command hi hw hr found hst hp reply hd (dataPhase_out rfl)).trans ?_
  rw [← bytes]
  rfl

end Sys2Proof.Proofs
end

section
/-! Accesses that start no pass (R200 to R231): what a read gives and what a write stores, the interrupt line and the soft reset
(R207, R700), the HCCR commands (R222 to R229), the NVRAM and PIO ports (R213, R217), and the bank that an access reaches
(R203). -/

namespace Sys2Proof.Proofs

open Sys2Proof.Machine Sys2Proof.Safety Sys2Proof.Laws

/-! ### Plain reads and writes -/

/-- Settles O7: each read is `returnRead` of the register's value. -/
theorem registerReads : Obligations.RegisterReads := by
  intro s
  exact ⟨fun _ => rfl, fun _ => rfl, rfl, rfl, rfl, rfl, rfl, rfl, rfl, rfl, rfl, rfl, rfl, rfl, rfl, rfl, rfl, rfl, rfl, rfl,
    rfl, rfl, rfl, rfl, fun _ => rfl⟩

/-- Settles O8: each of these writes is answered with the state it came to. -/
theorem ignoredWrites : Obligations.IgnoredWrites := by
  intro s off v b
  simp only [List.forall_mem_cons, List.not_mem_nil, false_implies, implies_true, and_true]
  and_intros <;> rfl

/-- Settles O9: these are storing registers. -/
theorem storedWrites : Obligations.StoredWrites := by
  intro s v
  have stores (r : Reg) (h : (storedValue s.reg r).isSome = true) := exec_writeInstr_stored h v
  exact ⟨stores .conf0 rfl, stores .conf1 rfl, stores .flashAddr rfl, stores .riscPsr rfl, stores .riscPc rfl,
    stores .riscMtr rfl, stores .gpioData rfl, stores .gpioEnable rfl⟩

/-- Settles O16: three registers of a channel are storing registers, and its status and FIFO read a constant. -/
theorem dmaRegisters : Obligations.DmaRegisters := by
  intro s v
  have reads {r : Reg} {x : Word} (h : storedValue s.reg r = some x) := exec_readInstr_stored h
  have stores (r : Reg) (h : (storedValue s.reg r).isSome = true) := exec_writeInstr_stored h v
  exact ⟨reads (r := .dmaConf 0) rfl, stores (.dmaConf 0) rfl, reads (r := .dmaConf 1) rfl, stores (.dmaConf 1) rfl,
    reads (r := .dmaControl 0) rfl, stores (.dmaControl 0) rfl, reads (r := .dmaControl 1) rfl, stores (.dmaControl 1) rfl,
    reads (r := .dmaAddr 0 0) rfl, stores (.dmaAddr 0 0) rfl, reads (r := .dmaAddr 0 1) rfl, stores (.dmaAddr 0 1) rfl,
    reads (r := .dmaAddr 0 2) rfl, stores (.dmaAddr 0 2) rfl, reads (r := .dmaAddr 0 3) rfl, stores (.dmaAddr 0 3) rfl,
    reads (r := .dmaAddr 1 0) rfl, stores (.dmaAddr 1 0) rfl, reads (r := .dmaAddr 1 1) rfl, stores (.dmaAddr 1 1) rfl,
    reads (r := .dmaAddr 1 2) rfl, stores (.dmaAddr 1 2) rfl, reads (r := .dmaAddr 1 3) rfl, stores (.dmaAddr 1 3) rfl,
    rfl, rfl, rfl, rfl⟩

/-! ### The semaphore -/

theorem bitSet_iff {v m : Word} : bitSet v m = true ↔ v &&& m = m := beq_iff_eq

theorem bitSet_eq_false_of_and_eq_zero {v m : Word} (hm : m ≠ 0) (h : v &&& m = 0) : bitSet v m = false := by
  rw [bitSet, h]
  exact beq_eq_false_iff_ne.2 hm.symm

/-- Between two passes a kick starts one (R400). -/
theorem kick_of_rest {s : State} (h : s.sxp.running = false) : kick s = resume s := if_neg (ne_true_of_eq_false h)

/-- A write to SEMA that leaves the lock set, or comes to an engine that does not wait for it, is the store alone (R209). -/
theorem exec_writeSema_stores {s : State} {v : Word}
    (h : s.sxp.state ≠ .acquireMboxSemaphore ∨ semaLocked (semaWritten s.reg.sema v) = true) :
    exec (.writeSema v) s = .next (storeSema v s) := by
  have kept : (!semaLocked (storeSema v s).reg.sema && (storeSema v s).sxp.state = .acquireMboxSemaphore) = false := by
    rcases h with busy | locked
    · simp [busy]
    · simp [locked]
  exact if_neg (ne_true_of_eq_false kept)

/-- A write to SEMA that clears the lock resumes an engine that waits for it (R209). -/
theorem exec_writeSema_releases {s : State} {v : Word} (hs : s.sxp.state = .acquireMboxSemaphore)
    (hr : s.sxp.running = false) (h : semaLocked (semaWritten s.reg.sema v) = false) :
    exec (.writeSema v) s = .next (resume (storeSema v s)) := by
  have freed : (!semaLocked (storeSema v s).reg.sema && (storeSema v s).sxp.state = .acquireMboxSemaphore) = true := by
    simp [hs, h]
  exact (if_pos freed).trans (congrArg _ (kick_of_rest hr))

/-- Settles O11: such a write resumes no engine. -/
theorem semaphoreWriteStores : Obligations.SemaphoreWriteStores := by
  rintro s v _ rfl h
  exact exec_writeSema_stores (h.imp_right bitSet_iff.2)

/-! ### Mailboxes, HCCR and the ports -/

theorem writeMbin_of_not_cursor {i : Fin 8} (h : ¬(i = Param.reqSlot ∨ i = Param.respSlot)) (v : Word) (s : State) :
    writeMbin i v s = { s with reg := { s.reg with mbin := s.reg.mbin.set i v } } :=
  if_neg fun cursor => h cursor.1

theorem writeMbin_of_busy {s : State} (h : s.sxp.state ≠ .idle) (i : Fin 8) (v : Word) :
    writeMbin i v s = { s with reg := { s.reg with mbin := s.reg.mbin.set i v } } :=
  if_neg fun idle => h idle.2

/-- Settles O13: the slot is no cursor, or the engine is not idle. -/
theorem mailboxWritesStore : Obligations.MailboxWritesStore := by
  intro s v
  have plain {i : Fin 8} (h : ¬(i = Param.reqSlot ∨ i = Param.respSlot)) :
      (.next (writeMbin i v s) : Result) = .next { s with reg := { s.reg with mbin := s.reg.mbin.set i v } } :=
    congrArg _ (writeMbin_of_not_cursor h v s)
  have busy (h : s.sxp.state ≠ .idle) (i : Fin 8) :
      (.next (writeMbin i v s) : Result) = .next { s with reg := { s.reg with mbin := s.reg.mbin.set i v } } :=
    congrArg _ (writeMbin_of_busy h i v)
  exact ⟨plain (i := 0) (by decide), plain (i := 1) (by decide), plain (i := 2) (by decide), plain (i := 3) (by decide),
    plain (i := 6) (by decide), plain (i := 7) (by decide), fun h => ⟨busy h 4, busy h 5⟩⟩

/-- Settles O15: only the doorbell looks at the engine, and a busy one leaves the command pending. The theorem's namespace
keeps it apart from the table `hccrCommands` of the model. -/
theorem Registers.hccrCommands : Obligations.HccrCommands := by
  intro s low c
  refine ⟨rfl, rfl, rfl, rfl, rfl, rfl, rfl, rfl, fun busy => ?_⟩
  exact congrArg _ (if_neg busy)

/-- A queued NVRAM answer is taken (R77). -/
theorem drawNvram_cons {s : State} {w : Word} {q : List Word} (h : s.env.oracle.nvram = w :: q) :
    drawNvram s = (w, { s with env := { s.env with oracle := { s.env.oracle with nvram := q } } }) := by
  simp [drawNvram, h]

/-- Settles O17: the NVRAM port draws the next answer, and the PIO port reads the word at its index. -/
theorem nvramAndPioPorts : Obligations.NvramAndPioPorts := by
  intro s v
  refine ⟨rfl, fun w q answers => ?nvram, fun empty => ?empty, fun p inside buffer => ?word⟩
  case nvram =>
    have drawn := drawNvram_cons (s := recordCall .nvRead s) answers
    exact congrArg (fun r : Word × State => Host.Outcome.next (returnRead r.1 r.2)) drawn
  case empty =>
    change Host.Outcome.next (readPio s) = _
    rw [readPio, empty]
    rfl
  case word =>
    have value : p.words.getD p.idx Param.pioEmptyRead = p.words[p.idx] := List.getD_eq_getElem _ _ inside
    change Host.Outcome.next (readPio s) = _
    rw [readPio, buffer, ← value]
    rfl

/-! ### The interrupt line and the soft reset -/

/-- The line is the interrupt bit under both enables (R63, R124). -/
theorem irq_iff (r : Regs) : irq r = true ↔
    r.isr &&& Param.isrRiscInt = Param.isrRiscInt ∧ r.icr &&& Param.icrEnAll = Param.icrEnAll
      ∧ r.icr &&& Param.icrEnRisc = Param.icrEnRisc := by
  simp only [irq, irqEnabled, Bool.and_eq_true, bitSet_iff]

/-- The soft-reset bit is one bit: not clear is set. -/
theorem bitSet_softReset {v : Word} (h : v &&& Param.icrSoftReset ≠ 0) : bitSet v Param.icrSoftReset = true := by
  have bit : v &&& Param.icrSoftReset = BitVec.setWidth 16 (BitVec.ofBool (v.getLsbD 0)) :=
    BitVec.and_one_eq_setWidth_ofBool_getLsbD
  rw [bitSet_iff]
  rw [bit] at h ⊢
  cases hb : v.getLsbD 0 <;> rw [hb] at h
  · exact absurd rfl h
  · rfl

/-- The bits stored in ICR beside the soft-reset bit are those written (R207). -/
theorem icrStored_and {m : Word} (hm : ~~~Param.icrSoftReset &&& m = m) (v : Word) : icrStored v &&& m = v &&& m := by
  rw [icrStored, BitVec.and_assoc, hm]

/-- After a reset firmware memory reads the sentinel at its address and 0 elsewhere (R59, R700). -/
theorem fwRead_reset (s : State) (a : Word) :
    fwRead (controllerReset s) a = if a = Config.fwSentinelAddr then Config.fwSentinelValue else 0 := by
  rw [fwRead, controllerReset_fw, fwReset]
  split
  · next zero =>
    rw [zero]
    exact (ite_self _).symm
  · exact if_congr BitVec.toNat_inj rfl rfl

/-- With the bits of `BANK_SEL` clear the RISC bank is selected (R33, R128). -/
theorem bankSel_cleared (c : DecodeCtx) (v : Word) : bankSel { c with conf1 := v &&& ~~~bankSelMask c.gen } = .risc := by
  cases hg : c.gen with
  | old =>
    have clear : (v &&& ~~~bankSelMask .old).getLsbD Param.conf1SxpSelBit = false := by
      rw [BitVec.getLsbD_and]
      exact Bool.and_false _
    simp only [bankSel, clear, Bool.false_eq_true, if_false]
  | new =>
    have clear : (v &&& ~~~bankSelMask .new).extractLsb' Param.bankLo 2 = 0 := by
      rw [BitVec.extractLsb'_and]
      exact BitVec.and_zero
    simp only [bankSel, clear]
    rfl

/-- A reset lowers the line (R700, R124). -/
theorem irq_reset (n : Inst) : irq (Regs.reset n) = false := by
  have clear : bitSet (Regs.reset n).isr Param.isrRiscInt = false :=
    bitSet_eq_false_of_and_eq_zero (by decide) BitVec.zero_and
  rw [irq, clear, Bool.false_and]

theorem getElem_replicate_zero {n : Nat} (k : Fin n) : (Vector.replicate n (0 : Word))[k] = 0 :=
  Vector.getElem_replicate _

/-- Settles O10: the enables are stored bits, and a reset is `controllerReset`. -/
theorem icrWriteAndSoftReset : Obligations.IcrWriteAndSoftReset := by
  refine ⟨irq_iff, fun s v => ⟨fun plain => ?store, fun soft => ?reset⟩⟩
  case store =>
    have unset := bitSet_eq_false_of_and_eq_zero (by decide) plain
    refine ⟨_, if_neg (ne_true_of_eq_false unset), rfl, rfl, (irq_iff _).trans ?_⟩
    rw [icrStored_and (by decide), icrStored_and (by decide)]
  case reset =>
    have bus (b : Fin 2) : (controllerReset s).sxp.buses[b] = Bus.reset s.inst := Vector.getElem_replicate _
    refine ⟨controllerReset s, if_pos (bitSet_softReset soft), irq_reset s.inst, rfl, rfl, bankSel_cleared (decodeCtx s) _,
      rfl, rfl, rfl, rfl, ?mailboxes, rfl, rfl, rfl, rfl, rfl, rfl, rfl, ?dma, fwRead_reset s,
      rfl, rfl, rfl, rfl, rfl, rfl, rfl, rfl, rfl, rfl, rfl, rfl, rfl, rfl, rfl, rfl, rfl, rfl, rfl, rfl, rfl, rfl,
      ?targets, ?buses, rfl, rfl, rfl, rfl, rfl⟩
    case mailboxes => exact fun k => ⟨getElem_replicate_zero k, getElem_replicate_zero k, getElem_replicate_zero k⟩
    case dma =>
      intro c
      have channel : (controllerReset s).reg.dma[c] = { conf := 0, control := 0, addr := .replicate 4 0 } :=
        Vector.getElem_replicate _
      rw [channel]
      exact ⟨rfl, rfl, getElem_replicate_zero⟩
    case targets =>
      intro b k
      rw [targetParam, bus b]
      exact Vector.getElem_replicate _
    case buses =>
      intro b k
      rw [busParam, bus b]
      rfl

/-! ### The bank at the access -/

/-- The RISC bank is selected by a clear bit, or by a field of 0 (R128). -/
theorem bankSel_eq_risc_iff (c : DecodeCtx) : bankSel c = .risc ↔
    (c.gen = .old ∧ c.conf1.getLsbD 3 = false) ∨ (c.gen = .new ∧ c.conf1.extractLsb' 8 2 = 0) := by
  obtain ⟨gen, conf1, setup, nums⟩ := c
  cases gen with
  | old =>
    have bit : bankSel ⟨.old, conf1, setup, nums⟩ = if conf1.getLsbD 3 then .sxp 0 else .risc := rfl
    simp only [bit, true_and, reduceCtorEq, false_and, or_false]
    cases conf1.getLsbD 3 <;> decide
  | new =>
    simp only [bankSel, Param.bankLo, true_and, reduceCtorEq, false_and, false_or]
    generalize conf1.extractLsb' 8 2 = field
    decide +revert

/-- The offset 0xC0 is the sub-offset 0x40 of whatever bank is selected, if PIO_PORT does not stand there (R120, R127). -/
theorem resolve_hccrOffset {c : DecodeCtx} (h : c.nums.pioPort ≠ 0x00C0) :
    resolve c 0x00C0 = lookupReg (bankRegs c.nums (bankSel c)) 0x0040 := by
  have fixed : lookupReg (fixedRegs c.nums) 0x00C0 = none := by
    have candidates : (candidateRegs.find? fun e => e.1 == (0x00C0 : Word)) = none := by decide
    rw [lookupReg, fixedRegs, List.find?_append, candidates, List.find?_cons_of_neg (by simpa using h)]
    rfl
  have window : bankOf c 0x00C0 = some (bankSel c, 0x0040) := bankOf_bankWindow c (sub := 0x0040) (by decide)
  rw [resolve, fixed, window]

theorem decode_doorbell {c : DecodeCtx} (h : c.nums.pioPort ≠ 0x00C0) (hb : bankSel c = .risc) :
    decode c (.regWrite 0x00C0 0x5000) = .ok (.hccrSetHostInt 0) := by
  have found : resolve c 0x00C0 = some .hccr := by
    rw [resolve_hccrOffset h, hb]
    rfl
  exact decode_regWrite (by decide) found 0x5000

/-- In any other bank the write of that offset changes nothing: it comes to SXP_PINS_DIFF or to no register (R202, R230). -/
theorem decode_notDoorbell {c : DecodeCtx} (h : c.nums.pioPort ≠ 0x00C0) (hb : bankSel c ≠ .risc) :
    ∃ i, decode c (.regWrite 0x00C0 0x5000) = .ok i ∧ ∀ s, exec i s = .next s := by
  have even : oddOffset 0x00C0 = false := by decide
  cases found : resolve c 0x00C0 with
  | none => exact ⟨_, decode_unmapped even found (some 0x5000), fun _ => rfl⟩
  | some r =>
    refine ⟨_, decode_regWrite even found 0x5000, fun s => ?_⟩
    rw [resolve_hccrOffset h] at found
    cases bank : bankSel c with
    | risc => exact absurd bank hb
    | sxp b =>
      obtain rfl : r = .pinsDiff b := by
        rw [bank] at found
        exact (Prod.mk.inj (List.mem_singleton.1 (mem_of_lookupReg_eq_some found))).2
      rfl
    | dma =>
      rw [bank] at found
      cases found

/-- Settles O18: the bank selected at the access says which register the offset names. -/
theorem bankSelectedAtAccess : Obligations.BankSelectedAtAccess := by
  intro s rest hf hr hs hp
  have work := nextWork_event hr hs
  split
  · next selected => exact step_of_run hf work (decode_doorbell hp ((bankSel_eq_risc_iff (decodeCtx s)).2 selected))
  · next other =>
    obtain ⟨i, decoded, nothing⟩ := decode_notDoorbell (c := decodeCtx s) hp (mt (bankSel_eq_risc_iff _).1 other)
    exact (step_of_run hf work decoded).trans (nothing _)

end Sys2Proof.Proofs
end

section
/-! What the host's accesses do with an idle or a waiting engine (R209, R212, R224): the doorbell, the write of a ring cursor, and
the release of the semaphore. Each comes to an idle engine, from where the pass goes on as `goesOn` says. -/

namespace Sys2Proof.Proofs

open Sys2Proof.Machine Sys2Proof.Safety Sys2Proof.Laws

/-! ### The doorbell -/

/-- The doorbell, rung while the engine is idle, runs a pass with the command pending (R224). -/
theorem exec_setHostInt_idle {s : State} (hs : s.sxp.state = .idle) (hr : s.sxp.running = false) (low : BitVec 12) :
    exec (.hccrSetHostInt low) s = .next (resume { s with sxp := { s.sxp with mboxCmdPending := true } }) := by
  have kicks : setHostInt s = kick { s with sxp := { s.sxp with mboxCmdPending := true } } := if_pos hs
  exact congrArg _ (kicks.trans (kick_of_rest hr))

/-- Settles O5: the pass comes to an idle engine with the command pending. -/
theorem doorbellRunsMailboxCommand : Obligations.DoorbellRunsMailboxCommand := by
  intro s low hs hr
  obtain ⟨-, runs⟩ := goesOn_resume (p := { s with sxp := { s.sxp with mboxCmdPending := true } }) hs
  exact (exec_setHostInt_idle hs hr low).trans runs

/-! ### The head of the request ring -/

theorem ringAdd_toNat (c : Word) (n : Nat) {len : Word} (h : 0 < len.toNat) :
    (ringAdd c n len).toNat = (c.toNat + n) % len.toNat := by
  have small : (c.toNat + n) % len.toNat < 2 ^ 16 := (Nat.mod_lt _ h).trans len.isLt
  rw [ringAdd, BitVec.toNat_ofNat, Nat.mod_eq_of_lt small]

/-- Why the ring has no work or no room, in the order of R403. -/
theorem ringBlocked_eq {s : State} (h : s.sxp.respInit = true → 0 < s.sxp.respLen.toNat) :
    ringBlocked s =
      if s.sxp.reqInit = false ∨ s.sxp.respInit = false then some .nothingToDo
      else if s.reg.mbin[4].toNat % s.sxp.reqLen.toNat = s.sxp.reqOut.toNat then some .ringEmpty
      else if (s.sxp.respIn.toNat + 1) % s.sxp.respLen.toNat = s.reg.mbin[5].toNat % s.sxp.respLen.toNat then some .respFull
      else none := by
  have inactive : (!ringsActive s.sxp) = true ↔ s.sxp.reqInit = false ∨ s.sxp.respInit = false := by
    rw [ringsActive, Bool.not_and, Bool.or_eq_true, Bool.not_eq_true', Bool.not_eq_true']
  have empty : ringMod s.reg.mbin[Param.reqSlot] s.sxp.reqLen = s.sxp.reqOut
      ↔ s.reg.mbin[4].toNat % s.sxp.reqLen.toNat = s.sxp.reqOut.toNat := by
    rw [← BitVec.toNat_inj, ringMod_toNat]
    rfl
  have full (hl : 0 < s.sxp.respLen.toNat) :
      ringAdd s.sxp.respIn 1 s.sxp.respLen = ringMod s.reg.mbin[Param.respSlot] s.sxp.respLen
        ↔ (s.sxp.respIn.toNat + 1) % s.sxp.respLen.toNat = s.reg.mbin[5].toNat % s.sxp.respLen.toNat := by
    rw [← BitVec.toNat_inj, ringMod_toNat, ringAdd_toNat _ _ hl]
    rfl
  by_cases active : s.sxp.reqInit = false ∨ s.sxp.respInit = false
  · rw [ringBlocked, if_pos (inactive.2 active), if_pos active]
  · have initialised : s.sxp.respInit = true := eq_true_of_ne_false fun hf => active (.inr hf)
    rw [ringBlocked, if_neg (mt inactive.1 active), if_neg active, if_congr empty rfl (if_congr (full (h initialised)) rfl rfl)]

section

variable {s : State} (hq : s.sxp.directReq = none)

include hq

theorem fetch_blocked {why : Suspend} (h : ringBlocked s = some why) : fetch s = .nothing why := by
  simp only [fetch, hq, h]

theorem fetch_unblocked (h : ringBlocked s = none) : fetch s = fetchHead s := by
  simp only [fetch, hq, h]

variable (hb : ringBlocked s = none) {q : List Bool} (hd : s.env.oracle.dma = true :: q)

include hb hd

/-- A head slot that is not aborted is dispatched (R405). -/
theorem fetch_dispatched (kept : s.sxp.reqOut ∉ s.sxp.abortQ) :
    fetch s = .descriptor (.ring s.sxp.reqOut)
      (readBytes s.env.hostMem (slotAddr s.sxp.reqBase s.sxp.reqOut) Param.iocbSize)
      { s with env := { s.env with oracle := { s.env.oracle with dma := q } } } := by
  rw [fetch_unblocked hq hb]
  simp only [fetchHead, if_neg kept, memRead_granted hd _ (by decide : Param.iocbSize ≠ 0)]

/-- A head slot in the abort queue is taken off it and skipped (R404). -/
theorem fetch_aborted (aborted : s.sxp.reqOut ∈ s.sxp.abortQ) :
    fetch s = .aborted s.sxp.reqOut
      (readBytes s.env.hostMem (slotAddr s.sxp.reqBase s.sxp.reqOut) Param.iocbSize)
      { s with
        sxp := { s.sxp with abortQ := s.sxp.abortQ.erase s.sxp.reqOut }
        env := { s.env with oracle := { s.env.oracle with dma := q } } } := by
  have read := memRead_granted (s := { s with sxp := { s.sxp with abortQ := s.sxp.abortQ.erase s.sxp.reqOut } }) hd
    (slotAddr s.sxp.reqBase s.sxp.reqOut) (by decide : Param.iocbSize ≠ 0)
  rw [fetch_unblocked hq hb]
  simp only [fetchHead, if_pos aborted, read]

end

/-! ### A pass with the ring as its only work -/

/-- The wait after a skipped slot does not depend on whether the pass was marked as running. -/
theorem slotSkipped_running (slot : Word) (b : List Byte) (r : Bool) (s : State) :
    slotSkipped slot b { s with sxp := { s.sxp with running := r } } = slotSkipped slot b s := by
  have silent : silentEntry ⟨b, .ring slot, true⟩ = true := Bool.or_true _
  simp only [slotSkipped, completionWaits, silent, if_true]
  rfl

section

variable {p : State} {out : Result} (h : goesOn p out) (hc : p.sxp.mboxCmdPending = false) (hq : p.sxp.directReq = none)

include h hc hq

/-- A blocked ring ends the pass for the reason that holds (R403). -/
theorem goesOn_blocked (hr : p.sxp.running = false) {why : Suspend} (hb : ringBlocked p = some why) :
    out = .next { p with env := { p.env with lastSuspend := some why } } := by
  obtain ⟨-, outcome⟩ := h
  have found := fetch_blocked (s := { p with sxp := { p.sxp with running := true } }) hq hb
  rw [if_neg (ne_true_of_eq_false hc), found] at outcome
  rw [outcome, ← hr]

section

variable (hb : ringBlocked p = none) {q : List Bool} (hd : p.env.oracle.dma = true :: q)

include hb hd

/-- A head slot that is not aborted is run (R405). -/
theorem goesOn_dispatched (kept : p.sxp.reqOut ∉ p.sxp.abortQ) :
    out = exec (iocbInstr (.ring p.sxp.reqOut)
        (readBytes p.env.hostMem (slotAddr p.sxp.reqBase p.sxp.reqOut) Param.iocbSize))
      { p with
        sxp := { p.sxp with running := true }
        env := { p.env with oracle := { p.env.oracle with dma := q } } } := by
  obtain ⟨-, outcome⟩ := h
  have found := fetch_dispatched (s := { p with sxp := { p.sxp with running := true } }) hq hb hd kept
  rw [if_neg (ne_true_of_eq_false hc), found] at outcome
  exact outcome

/-- An aborted head slot is taken off the abort queue and skipped (R404). -/
theorem goesOn_aborted (aborted : p.sxp.reqOut ∈ p.sxp.abortQ) :
    out = .next (slotSkipped p.sxp.reqOut
      (readBytes p.env.hostMem (slotAddr p.sxp.reqBase p.sxp.reqOut) Param.iocbSize)
      { p with
        sxp := { p.sxp with abortQ := p.sxp.abortQ.erase p.sxp.reqOut }
        env := { p.env with oracle := { p.env.oracle with dma := q } } }) := by
  obtain ⟨-, outcome⟩ := h
  have found := fetch_aborted (s := { p with sxp := { p.sxp with running := true } }) hq hb hd aborted
  rw [if_neg (ne_true_of_eq_false hc), found] at outcome
  rw [← slotSkipped_running _ _ true]
  exact outcome

end

end

/-! ### The write of a ring cursor -/

/-- The write of a cursor stores it in `mbin`, and an idle engine goes on from there (R212). -/
theorem exec_writeCursor {s u : State} {v : Word} {i : Instr} (hs : s.sxp.state = .idle) (hr : s.sxp.running = false)
    (hi : i = .writeMbox4 v ∧ u = { s with reg := { s.reg with mbin := s.reg.mbin.set 4 v } }
      ∨ i = .writeMbox5 v ∧ u = { s with reg := { s.reg with mbin := s.reg.mbin.set 5 v } }) :
    ∃ m, u = { s with reg := { s.reg with mbin := m } } ∧ goesOn u (exec i s) := by
  have goes {k : Fin 8} (hk : k = Param.reqSlot ∨ k = Param.respSlot) :
      goesOn { s with reg := { s.reg with mbin := s.reg.mbin.set k v } } (.next (writeMbin k v s)) := by
    have kicks : writeMbin k v s = kick { s with reg := { s.reg with mbin := s.reg.mbin.set k v } } := if_pos ⟨hk, hs⟩
    rw [kicks, kick_of_rest (s := { s with reg := { s.reg with mbin := s.reg.mbin.set k v } }) hr]
    exact goesOn_resume hs
  rcases hi with ⟨rfl, rfl⟩ | ⟨rfl, rfl⟩
  · exact ⟨_, rfl, goes (k := 4) (.inl rfl)⟩
  · exact ⟨_, rfl, goes (k := 5) (.inr rfl)⟩

/-- Settles O14: the first reason of R403 that holds ends the pass, and with none the head slot is fetched. -/
theorem cursorWriteStartsRing : Obligations.CursorWriteStartsRing := by
  intro s u v i hs hr hc hq hl hi rin rout yields
  obtain ⟨m, rfl, goes⟩ := exec_writeCursor hs hr hi
  have blocked := ringBlocked_eq (s := { s with reg := { s.reg with mbin := m } }) hl
  split
  · next inactive => exact goesOn_blocked goes hc hq hr (blocked.trans (if_pos inactive))
  next active =>
  rw [if_neg active] at blocked
  split
  · next empty => exact goesOn_blocked goes hc hq hr (blocked.trans (if_pos empty))
  next work =>
  rw [if_neg work] at blocked
  split
  · next full => exact goesOn_blocked goes hc hq hr (blocked.trans (if_pos full))
  next room =>
  rw [if_neg room] at blocked
  exact fun q kept hd => goesOn_dispatched goes hc hq blocked hd kept

/-! ### Aborted slots -/

/-- A silent completion whose entry the DMA interface takes is posted in one step of the loop (R440). -/
theorem engineStep_postSilent {s : State} {r : Response} {q : List Bool} (hs : s.sxp.state = .waitTimer)
    (ha : s.sxp.timerArmed = false) (hp : s.sxp.pktResp = some r) (hd : s.env.oracle.dma = true :: q) :
    engineStep s = .go (backToIdle (publishReqOut (advanceRespIn { s with env := { s.env with
      oracle := { s.env.oracle with dma := q }
      hostMem := writeBytes s.env.hostMem (slotAddr s.sxp.respBase s.sxp.respIn) (responseBytes r) } }))) := by
  simp only [engineStep, hs, stepWaitTimer, ha, hp, writeResp_granted hd, Bool.false_eq_true, if_false]

/-- Settles O50: the head slot is in the abort queue; and the silent posting is one step, which raises no interrupt. -/
theorem abortedSlotSkipped : Obligations.AbortedSlotSkipped := by
  refine ⟨fun s u v i q hs hr hc hq hi unblocked aborted hd => ?skip, fun s rest r q hm hf hr hs ha hst hp hd => ?post⟩
  case skip =>
    obtain ⟨m, rfl, goes⟩ := exec_writeCursor hs hr hi
    exact goesOn_aborted goes hc hq unblocked hd aborted
  case post =>
    obtain ⟨host, -, -⟩ := (memoriesWf_iff s).1 hm
    refine ⟨_, ?posted, storedAt_writeBytes host.1 _ (by simp)⟩
    have posts := engineStep_postSilent (r := r) (q := q)
      (s := { s with sxp := { s.sxp with timerArmed := false, running := true }, env := { s.env with script := rest } })
      hst rfl hp hd
    rw [step_fire_sxp hf hr hs ha]
    exact goesOn_of_step rfl posts

/-! ### The release of the semaphore -/

/-- A pass that comes to an idle engine with enough fuel goes on as `goesOn` says (R443, R450). -/
theorem goesOn_runPass {p : State} (hp : p.sxp.state = .idle) {n : Nat} (hn : 6 ≤ n) :
    goesOn p (.next (runPass n { p with sxp := { p.sxp with running := true } })) := by
  have passes : runPass n { p with sxp := { p.sxp with running := true } } = resume p :=
    runPass_idle (s := { p with sxp := { p.sxp with running := true } }) hp hn
  rw [passes]
  exact goesOn_resume hp

theorem getElem_set_mailbox (t : Vector Word 8) (j k : Fin 8) (v : Word) : (t.set j v)[k] = if k = j then v else t[k] := by
  simp [Vector.getElem_set, Fin.ext_iff, eq_comm]

theorem outputsPosted_postedOut (s : State) : outputsPosted s (postedOut s.sxp.mboutMask s.sxp.stageOut s.reg.mbout) := by
  intro k
  simp [postedOut]

/-- The state after a posting with the output mailboxes `mb`, as the statements have it: `postsOutputs` and its two variants all
go on from such a state. -/
def posted (mb : Vector Word 8) (s : State) : State :=
  idleAgain { s with
    reg := { s.reg with sema := s.reg.sema ||| Param.semaLock, isr := s.reg.isr ||| Param.isrRiscInt, mbout := mb }
    sxp := { s.sxp with mboutMask := 0 } }

/-- The state in which `SetRiscInterrupt` ends a posting (R443): the lock is taken, and the outputs are in their mailboxes. -/
def outputsCopied (mb : Vector Word 8) (s : State) : State :=
  { s with
    reg := { s.reg with sema := s.reg.sema ||| Param.semaLock, mbout := mb }
    sxp := { s.sxp with state := .setRiscInterrupt, running := true } }

theorem finishPosting_outputsCopied {s : State} (ha : s.sxp.timerArmed = false) (mb : Vector Word 8) :
    finishPosting (outputsCopied mb s) = { posted mb s with sxp := { (posted mb s).sxp with running := true } } := by
  have unarmed : s = { s with sxp := { s.sxp with timerArmed := false } } := by rw [← ha]
  rw [unarmed]
  rfl

section

variable {s : State} {n : Nat} (hs : s.sxp.state = .acquireMboxSemaphore) (hl : semaLocked s.reg.sema = false)
  (ha : s.sxp.timerArmed = false) (hn : 8 ≤ n)

include hs hl ha hn

/-- An engine that finds the semaphore free posts in two steps, the second of them by the completion path, and goes on (R442,
R443). -/
theorem goesOn_posted {k : PostKind} (hk : s.sxp.postKind = some k) {t : State} {mb : Vector Word 8}
    (ht : t.sxp.timerArmed = false)
    (posts : postByKind k (outputsCopied (postedOut s.sxp.mboutMask s.sxp.stageOut s.reg.mbout) s) =
      .go (finishPosting (outputsCopied mb t))) :
    goesOn (posted mb t) (.next (runPass n { s with sxp := { s.sxp with running := true } })) := by
  obtain ⟨m, rfl⟩ := Nat.exists_eq_add_of_le' hn
  have acquires : engineStep { s with sxp := { s.sxp with running := true } } =
      .go (outputsCopied (postedOut s.sxp.mboutMask s.sxp.stageOut s.reg.mbout) s) := by
    simp only [engineStep, hs, stepAcquire, hl, Bool.false_eq_true, if_false]
    rfl
  have interrupts : engineStep (outputsCopied (postedOut s.sxp.mboutMask s.sxp.stageOut s.reg.mbout) s) =
      .go { posted mb t with sxp := { (posted mb t).sxp with running := true } } := by
    rw [← finishPosting_outputsCopied ht, ← posts]
    simp only [engineStep, outputsCopied, stepSetInterrupt, ha, hk, Bool.false_eq_true, if_false]
  rw [runPass_go acquires, runPass_go interrupts]
  exact goesOn_runPass rfl (Nat.le_add_left 6 m)

theorem postsOutputs_runPass
    (hk : s.sxp.postKind = some .mboxResult ∨ s.sxp.postKind = some .mboxOnly
      ∨ s.sxp.postKind = some .mboxAndRing ∧ s.sxp.pktResp.isSome = true ∧ s.sxp.respInit = false) :
    postsOutputs s (.next (runPass n { s with sxp := { s.sxp with running := true } })) := by
  refine ⟨_, outputsPosted_postedOut s, ?_⟩
  rcases hk with hk | hk | ⟨hk, response, uninitialised⟩
  · exact goesOn_posted hs hl ha hn hk ha rfl
  · exact goesOn_posted hs hl ha hn hk ha rfl
  · obtain ⟨r, hp⟩ := Option.isSome_iff_exists.1 response
    refine goesOn_posted hs hl ha hn hk ha ?_
    simp only [postByKind, outputsCopied, hp, uninitialised, Bool.false_eq_true, if_false]

theorem postsOutputsAndConsumer_runPass (hk : s.sxp.postKind = some .fastPost) :
    postsOutputsAndConsumer s (.next (runPass n { s with sxp := { s.sxp with running := true } })) := by
  refine ⟨(postedOut s.sxp.mboutMask s.sxp.stageOut s.reg.mbout).set Param.reqSlot s.sxp.reqOut, fun k => ?outputs,
    goesOn_posted hs hl ha hn hk ha rfl⟩
  rw [getElem_set_mailbox, outputsPosted_postedOut s k]

theorem postsOutputsAndEntry_runPass {r : Response} {q : List Bool} (hk : s.sxp.postKind = some .mboxAndRing)
    (hp : s.sxp.pktResp = some r) (initialised : s.sxp.respInit = true) (hm : Memory.wf hostDefault s.env.hostMem = true)
    (hd : s.env.oracle.dma = true :: q) :
    postsOutputsAndEntry r q s (.next (runPass n { s with sxp := { s.sxp with running := true } })) := by
  have written := writeResp_granted
    (s := outputsCopied (postedOut s.sxp.mboutMask s.sxp.stageOut s.reg.mbout) s) hd r
  refine ⟨_, _, outputsPosted_postedOut s, storedAt_writeBytes hm _ (by simp), ?_⟩
  refine goesOn_posted hs hl ha hn hk (t := { s with
    sxp := { s.sxp with respIn := nextRespIn s.sxp }
    env := { s.env with
      hostMem := writeBytes s.env.hostMem (slotAddr s.sxp.respBase s.sxp.respIn) (responseBytes r)
      oracle := { s.env.oracle with dma := q } } }) ha ?_
  have response : (outputsCopied (postedOut s.sxp.mboutMask s.sxp.stageOut s.reg.mbout) s).sxp.pktResp = some r := hp
  have ring : (outputsCopied (postedOut s.sxp.mboutMask s.sxp.stageOut s.reg.mbout) s).sxp.respInit = true := initialised
  simp only [postByKind, response, ring, written, if_true]
  rfl

end

/-- Settles O12: the write resumes the engine at `AcquireMboxSemaphore`, with the semaphore free. -/
theorem semaphoreReleasePosts : Obligations.SemaphoreReleasePosts := by
  rintro s v _ rfl unlocked hs hr ha u
  have free : semaLocked u.reg.sema = false := bitSet_eq_false_of_and_eq_zero (by decide) unlocked
  have fuel : 8 ≤ passFuel := by decide
  have releases := exec_writeSema_releases hs hr free
  rw [releases]
  refine ⟨fun hk => ?plain, fun hk => ?fast, fun r q hk hp initialised hm hd => ?entry⟩
  case plain => exact postsOutputs_runPass (s := u) hs free ha fuel hk
  case fast => exact postsOutputsAndConsumer_runPass (s := u) hs free ha fuel hk
  case entry =>
    obtain ⟨host, -, -⟩ := (memoriesWf_iff s).1 hm
    exact postsOutputsAndEntry_runPass (s := u) hs free ha fuel hk hp initialised host.1 hd

end Sys2Proof.Proofs
end

section
/-! What the mailbox commands stage (R300 to R384): the words of a result, the pass of a command whose rule answers one, the check
of the target, and the commands that store nothing beside their result or store parameters. -/

namespace Sys2Proof.Proofs

open Sys2Proof.Machine Sys2Proof.Safety Sys2Proof.Laws

/-! ### The staged words and their mask -/

/-- Mailboxes that no output names keep the words that they had before the outputs were put in. -/
theorem getElem_foldl_set_of_notMem {outs : List (Fin 8 × Word)} {k : Fin 8} (h : k ∉ outs.map Prod.fst) (v : Vector Word 8) :
    (outs.foldl (fun v e => v.set e.1 e.2) v)[k] = v[k] := by
  induction outs generalizing v with
  | nil => rfl
  | cons e outs ih =>
    obtain ⟨here, later⟩ : k ≠ e.1 ∧ k ∉ outs.map Prod.fst := by simpa only [List.map_cons, List.mem_cons, not_or] using h
    rw [List.foldl_cons, ih later, getElem_set_mailbox, if_neg here]

/-- With no mailbox named twice, each output is in its mailbox. -/
theorem getElem_foldl_set_of_mem {outs : List (Fin 8 × Word)} (hn : (outs.map Prod.fst).Nodup) {e : Fin 8 × Word}
    (he : e ∈ outs) (v : Vector Word 8) : (outs.foldl (fun v e => v.set e.1 e.2) v)[e.1] = e.2 := by
  induction outs generalizing v with
  | nil => simp at he
  | cons d outs ih =>
    obtain ⟨fresh, distinct⟩ := List.nodup_cons.1 hn
    rw [List.foldl_cons]
    rcases List.mem_cons.1 he with rfl | later
    · rw [getElem_foldl_set_of_notMem fresh, getElem_set_mailbox, if_pos rfl]
    · exact ih distinct later _

theorem getLsbD_oneBit (i k : Fin 8) : ((1 : BitVec 8) <<< i.val).getLsbD k = (k == i) := by
  decide +revert

/-- Each output adds its mailbox's bit to the mask. -/
theorem getLsbD_foldl_mask (outs : List (Fin 8 × Word)) (m : BitVec 8) (k : Fin 8) :
    (outs.foldl (fun m e => m ||| (1 : BitVec 8) <<< e.1.val) m).getLsbD k
      = (m.getLsbD k || (outs.map Prod.fst).contains k) := by
  induction outs generalizing m with
  | nil => exact (Bool.or_false _).symm
  | cons e outs ih =>
    rw [List.foldl_cons, ih, BitVec.getLsbD_or, getLsbD_oneBit, List.map_cons, List.contains_cons, Bool.or_assoc]

/-- Settles O48: the status is in word 0, which no output names. -/
theorem stagedResultPostsAnswer : Obligations.StagedResultPostsAnswer := by
  intro status outs s distinct noStatus x
  refine ⟨?status, fun e he => getElem_foldl_set_of_mem distinct he _, fun k => ?mask⟩
  case status => exact getElem_foldl_set_of_notMem (k := 0) noStatus _
  case mask =>
    have bit0 : (1 : BitVec 8).getLsbD k = (k == 0) := getLsbD_oneBit 0 k
    exact (getLsbD_foldl_mask outs 1 k).trans (by rw [bit0])

/-! ### The pass of a mailbox command -/

/-- The engine has taken the pending command (R401). -/
def taken (s : State) : State := { s with sxp := { s.sxp with mboxCmdPending := false } }

/-- A rule that answers a result ends the pass at the wait for its posting. -/
theorem next_takeMailbox_result {body : State → MboxAnswer} {s t : State} {status : Word} {outs : List (Fin 8 × Word)}
    (h : body (taken s) = .result status outs (taken t)) :
    (.next (resume (takeMailbox body s)) : Result) = .next (resultStaged status outs t) :=
  congrArg Host.Outcome.next (resume_takeMailbox_result h)

/-- A rule that checks the target of `mbin[1]`, with a target that is there, is the rule behind the check (R384). -/
theorem checkedBt_valid {s : State} (h : btOk s.inst s.reg.mbin[1] = true) (a : MboxAnswer) : checkedBt s a = a := if_pos h

theorem btOk_eq_false_iff (n : Inst) (w : Word) : btOk n w = false ↔
    numBuses n.buses ≤ (w.extractLsb' 15 1).toNat ∨ n.numTargets ≤ (w.extractLsb' 8 7).toNat := by
  rw [btOk, Bool.and_eq_false_iff, decide_eq_false_iff_not, decide_eq_false_iff_not, Nat.not_lt, Nat.not_lt, btBus, btTarget]

/-- The pass of a command that checks its target, with a target that is not there, changes nothing (R384). -/
theorem next_takeMailbox_badTarget {s : State} (h : btOk s.inst s.reg.mbin[1] = false) (body : State → MboxAnswer) :
    (.next (resume (takeMailbox (fun u => checkedBt u (body u)) s)) : Result) = .next (resultStaged Param.paramError [] s) :=
  next_takeMailbox_result (if_neg (ne_true_of_eq_false h))

/-- The pass of a command that checks its target, with a target that is there (R384). -/
theorem next_takeMailbox_validTarget {body : State → MboxAnswer} {s t : State} {status : Word} {outs : List (Fin 8 × Word)}
    (h : btOk s.inst s.reg.mbin[1] = true) (hb : body (taken s) = .result status outs (taken t)) :
    (.next (resume (takeMailbox (fun u => checkedBt u (body u)) s)) : Result) = .next (resultStaged status outs t) :=
  next_takeMailbox_result ((checkedBt_valid (s := taken s) h _).trans hb)

/-! ### Commands that stage words alone -/

/-- Settles O20: the rules answer `COMPLETE` at once, the queue commands behind the check of the target. -/
theorem commandsWithoutEffect : Obligations.CommandsWithoutEffect := by
  refine fun s => ⟨fun i hi => ?plain, fun valid => ⟨fun i hi => ?queue, ?status⟩⟩
  case plain =>
    simp only [List.mem_cons, List.not_mem_nil, or_false] at hi
    rcases hi with rfl | rfl | rfl | rfl <;> exact next_takeMailbox_result rfl
  case queue =>
    simp only [List.mem_cons, List.not_mem_nil, or_false] at hi
    rcases hi with rfl | rfl | rfl <;> exact next_takeMailbox_validTarget valid rfl
  case status => exact next_takeMailbox_validTarget valid rfl

/-- Settles O26: each rule answers its words. -/
theorem informationCommands : Obligations.InformationCommands := fun _ =>
  ⟨next_takeMailbox_result rfl, next_takeMailbox_result rfl, next_takeMailbox_result rfl, next_takeMailbox_result rfl⟩

/-- Settles O36: the feature word is the stored bit, and no rule is found for an unknown opcode. -/
theorem featureAndUnknownCommands : Obligations.FeatureAndUnknownCommands := fun _ _ =>
  ⟨next_takeMailbox_result rfl, next_takeMailbox_result rfl, next_takeMailbox_result rfl⟩

/-- Settles O37: the rule of each of the twelve commands stands behind the check of the target, which fails. -/
theorem targetCheckFailure : Obligations.TargetCheckFailure := by
  intro s outOfRange i hi
  have invalid : btOk s.inst s.reg.mbin[1] = false := (btOk_eq_false_iff _ _).2 outOfRange
  simp only [List.mem_cons, List.not_mem_nil, or_false] at hi
  rcases hi with rfl | rfl | rfl | rfl | rfl | rfl | rfl | rfl | rfl | rfl | rfl | rfl <;>
    exact next_takeMailbox_badTarget invalid _

/-! ### Bus parameters -/

/-- A GET of a bus parameter answers the words of one bus or two (R372). -/
theorem getBusParam_eq (k : BParam) (s : State) : getBusParam k s =
    completed ((1, busParam s.sxp 0 k) :: if s.inst.buses == .two then [(2, busParam s.sxp 1 k)] else []) s := by
  cases hb : s.inst.buses <;> simp [getBusParam, hb]

/-- GET_RETRY_COUNT answers two words of each bus (R352). -/
theorem bodyGetRetryCount_eq (s : State) : bodyGetRetryCount s =
    completed ((1, busParam s.sxp 0 .retryCount) :: (2, busParam s.sxp 0 .retryDelay) ::
      if s.inst.buses == .two then [(6, busParam s.sxp 1 .retryCount), (7, busParam s.sxp 1 .retryDelay)] else []) s := by
  cases hb : s.inst.buses <;> simp [bodyGetRetryCount, hb]

/-- Settles O32: each rule answers the stored words, of one bus or of two. -/
theorem busParameterGets : Obligations.BusParameterGets := by
  refine fun s => ⟨fun p hp => ?perBus, ?retry, ?clock, ?pci⟩
  case perBus =>
    simp only [List.mem_cons, List.not_mem_nil, or_false] at hp
    rcases hp with rfl | rfl | rfl | rfl | rfl | rfl <;> exact next_takeMailbox_result (getBusParam_eq _ _)
  case retry => exact next_takeMailbox_result (bodyGetRetryCount_eq _)
  case clock => exact next_takeMailbox_result rfl
  case pci => exact next_takeMailbox_result rfl

/-- `t` is `s` with the bus parameters that `val` names replaced, and every other one and every target's parameters as before
(R60, R61). -/
structure BusParamsSet (val : Fin 2 → BParam → Option Word) (s t : State) : Prop where
  frame : t = { s with sxp := { s.sxp with buses := t.sxp.buses } }
  busParams : ∀ b k, busParam t.sxp b k = (val b k).getD (busParam s.sxp b k)
  targetParams : ∀ b t', targetParam t.sxp b t' = targetParam s.sxp b t'

/-- The values of a parameter store after one word of it is replaced. -/
def wordSet (val : Fin 2 → BParam → Option Word) (b : Fin 2) (k : BParam) (v : Word) : Fin 2 → BParam → Option Word :=
  fun b' k' => if b' = b ∧ k' = k then some v else val b' k'

theorem BusParamsSet.refl (s : State) : BusParamsSet (fun _ _ => none) s s := ⟨rfl, fun _ _ => rfl, fun _ _ => rfl⟩

theorem BusParamsSet.set {val : Fin 2 → BParam → Option Word} {s t : State} (h : BusParamsSet val s t) (b : Fin 2) (k : BParam)
    (v : Word) : BusParamsSet (wordSet val b k v) s (setBusParam b k v t) where
  frame := by rw [h.frame]; rfl
  busParams b' k' := by
    rw [busParam_setBusParam, h.busParams, wordSet]
    split <;> rfl
  targetParams b' t' := (targetParam_setBusParam b b' k t' v t).trans (h.targetParams b' t')

theorem BusParamsSet.congr {val val' : Fin 2 → BParam → Option Word} {s t : State} (h : BusParamsSet val s t)
    (hv : ∀ b k, val b k = val' b k) : BusParamsSet val' s t :=
  ⟨h.frame, fun b k => by rw [h.busParams, hv], h.targetParams⟩

/-- The pass of a command whose rule stores bus parameters: what the statements ask of it. -/
theorem BusParamsSet.next_takeMailbox {val : Fin 2 → BParam → Option Word} {body : State → MboxAnswer} {s t : State}
    (h : BusParamsSet val s t) (hb : body (taken s) = completed [] (taken t)) :
    ∃ buses, (.next (resume (takeMailbox body s)) : Result) =
        .next (resultStaged Param.complete [] { s with sxp := { s.sxp with buses := buses } })
      ∧ (∀ b k, busParam { s.sxp with buses := buses } b k = (val b k).getD (busParam s.sxp b k))
      ∧ ∀ b t, targetParam { s.sxp with buses := buses } b t = targetParam s.sxp b t := by
  refine ⟨t.sxp.buses, ?_, h.busParams, h.targetParams⟩
  rw [← h.frame]
  exact next_takeMailbox_result hb

/-- The state that a SET of a bus parameter leaves: a word is stored for each bus (R372). -/
def busWordsStored (k : BParam) (s : State) : State :=
  let t := setBusParam 0 k s.reg.mbin[1] s
  if s.inst.buses == .two then setBusParam 1 k s.reg.mbin[2] t else t

theorem setBusParams_taken (k : BParam) (s : State) :
    setBusParams k (taken s) = completed [] (taken (busWordsStored k s)) := by
  have inst : (taken s).inst = s.inst := rfl
  cases hb : s.inst.buses <;> simp only [setBusParams, busWordsStored, inst, hb] <;> rfl

theorem busParamsSet_busWordsStored (k : BParam) (s : State) :
    BusParamsSet (fun b k' => if k' ≠ k then none else if b = 0 then some s.reg.mbin[1]
      else if s.inst.buses == .two then some s.reg.mbin[2] else none) s (busWordsStored k s) := by
  have bus0 := (BusParamsSet.refl s).set 0 k s.reg.mbin[1]
  unfold busWordsStored
  split
  · refine (bus0.set 1 k s.reg.mbin[2]).congr fun b k' => ?_
    by_cases hk : k' = k <;> match b with | 0 | 1 => simp [wordSet, hk]
  · refine bus0.congr fun b k' => ?_
    by_cases hk : k' = k <;> match b with | 0 | 1 => simp [wordSet, hk]

/-- The state that SET_RETRY_COUNT leaves: two words are stored for each bus (R363). -/
def retryWordsStored (s : State) : State :=
  let t := setBusParam 0 .retryDelay s.reg.mbin[2] (setBusParam 0 .retryCount s.reg.mbin[1] s)
  if s.inst.buses == .two then setBusParam 1 .retryDelay s.reg.mbin[7] (setBusParam 1 .retryCount s.reg.mbin[6] t) else t

theorem bodySetRetryCount_taken (s : State) :
    bodySetRetryCount (taken s) = completed [] (taken (retryWordsStored s)) := by
  have inst : (taken s).inst = s.inst := rfl
  cases hb : s.inst.buses <;> simp only [bodySetRetryCount, retryWordsStored, inst, hb] <;> rfl

theorem busParamsSet_retryWordsStored (s : State) :
    BusParamsSet (fun b k =>
        if b = 1 ∧ !(s.inst.buses == .two) then none
        else if k = .retryCount then some (if b = 0 then s.reg.mbin[1] else s.reg.mbin[6])
        else if k = .retryDelay then some (if b = 0 then s.reg.mbin[2] else s.reg.mbin[7]) else none)
      s (retryWordsStored s) := by
  have bus0 := ((BusParamsSet.refl s).set 0 .retryCount s.reg.mbin[1]).set 0 .retryDelay s.reg.mbin[2]
  unfold retryWordsStored
  split
  · refine ((bus0.set 1 .retryCount s.reg.mbin[6]).set 1 .retryDelay s.reg.mbin[7]).congr fun b k => ?_
    cases k <;> match b with | 0 | 1 => simp [wordSet, *]
  · refine bus0.congr fun b k => ?_
    cases k <;> match b with | 0 | 1 => simp [wordSet, *]

/-- A word of bus 0 replaced, for the parameters that the chip has once. -/
theorem busParamsSet_chip (k : BParam) (v : Word) (s : State) :
    BusParamsSet (fun b k' => if b = 0 ∧ k' = k then some v else none) s (setBusParam 0 k v s) :=
  (BusParamsSet.refl s).set 0 k v

/-- Settles O33: the rule of each command replaces the words that it names, one by one. -/
theorem busParameterSets : Obligations.BusParameterSets := by
  refine fun s => ⟨fun p hp => ?perBus, ?retry, ?clock, ?pci⟩
  case perBus =>
    simp only [List.mem_cons, List.not_mem_nil, or_false] at hp
    rcases hp with rfl | rfl | rfl | rfl | rfl | rfl <;>
      exact (busParamsSet_busWordsStored _ s).next_takeMailbox (setBusParams_taken _ s)
  case retry => exact (busParamsSet_retryWordsStored s).next_takeMailbox (bodySetRetryCount_taken s)
  case clock => exact (busParamsSet_chip .clockRate _ s).next_takeMailbox (body := bodySetClockRate) rfl
  case pci => exact (busParamsSet_chip .pciParams _ s).next_takeMailbox (body := bodySetPciParams) rfl

/-! ### Target parameters -/

theorem ofNat_toNat_busIdx (w : Word) : Fin.ofNat 2 (w.extractLsb' 15 1).toNat = busIdx (btBus w) :=
  Fin.ext (Nat.mod_eq_of_lt (btBus w).isLt)

theorem ofNat_toNat_targetIdx (w : Word) : Fin.ofNat 128 (w.extractLsb' 8 7).toNat = targetIdx (btTarget w) :=
  Fin.ext (Nat.mod_eq_of_lt (btTarget w).isLt)

/-- The pass of a command whose rule replaces the parameters of the target that it checks: what the statements ask of it. -/
theorem next_takeMailbox_setTarget {body : State → MboxAnswer} {s : State} {b : Fin 2} {t : Fin 128} {p : TargetParam}
    (valid : btOk s.inst s.reg.mbin[1] = true)
    (hb : body (taken s) = completed [] (taken (setTargetParam b t p s))) :
    ∃ buses, (.next (resume (takeMailbox (fun u => checkedBt u (body u)) s)) : Result) =
        .next (resultStaged Param.complete [] { s with sxp := { s.sxp with buses := buses } })
      ∧ (∀ b' t', targetParam { s.sxp with buses := buses } b' t' = if b' = b ∧ t' = t then p else targetParam s.sxp b' t')
      ∧ ∀ b' k, busParam { s.sxp with buses := buses } b' k = busParam s.sxp b' k :=
  ⟨(setTargetParam b t p s).sxp.buses, next_takeMailbox_validTarget valid hb,
    fun b' t' => targetParam_setTargetParam b b' t t' p s, fun b' k => busParam_setTargetParam b b' t p k s⟩

/-- Settles O34: with the target there, the rules read its parameters and replace them. -/
theorem targetParameterCommands : Obligations.TargetParameterCommands := by
  intro s valid
  rw [ofNat_toNat_busIdx, ofNat_toNat_targetIdx]
  exact ⟨next_takeMailbox_validTarget valid rfl, next_takeMailbox_validTarget valid rfl,
    next_takeMailbox_setTarget valid rfl, next_takeMailbox_setTarget valid rfl⟩

/-! ### Round trips -/

theorem busParam_congr {x y : Sxp} (h : x.buses = y.buses) (b : Fin 2) (k : BParam) : busParam x b k = busParam y b k := by
  rw [busParam, h, busParam]

theorem targetParam_congr {x y : Sxp} (h : x.buses = y.buses) (b : Fin 2) (t : Fin 128) :
    targetParam x b t = targetParam y b t := by
  rw [targetParam, h, targetParam]

section

variable {s t u v : State} {set get : Instr} {stored read : List (Fin 8 × Word)} (hb : u.sxp.buses = t.sxp.buses)

include hb

/-- A SET that leaves the parameters of `v`, and a GET in a later state: the GET answers the words that it reads from those
parameters. -/
theorem get_after_set (sets : exec set s = .next (resultStaged Param.complete [] v))
    (gets : exec get u = .next (resultStaged Param.complete read u))
    (words : u.sxp.buses = v.sxp.buses → read = stored) :
    exec set s = .next t → exec get u = .next (resultStaged Param.complete stored u) := by
  intro ht
  obtain rfl : resultStaged Param.complete [] v = t := Host.Outcome.next.inj (sets.symm.trans ht)
  rw [gets, words hb]

/-- One word for each bus (R372). -/
theorem get_after_setBusParams (hi : u.inst = s.inst) (k : BParam)
    (sets : exec set s = .next (resume (takeMailbox (setBusParams k) s)))
    (gets : exec get u = .next (resume (takeMailbox (getBusParam k) u))) :
    exec set s = .next t → exec get u = .next (resultStaged Param.complete
      ((1, s.reg.mbin[1]) :: if s.inst.buses == .two then [(2, s.reg.mbin[2])] else []) u) := by
  refine get_after_set hb (sets.trans (next_takeMailbox_result (setBusParams_taken k s)))
    (gets.trans (next_takeMailbox_result (getBusParam_eq k (taken u)))) fun same => ?_
  have word (b : Fin 2) := (busParam_congr same b k).trans ((busParamsSet_busWordsStored k s).busParams b k)
  change (1, busParam u.sxp 0 k) :: (if u.inst.buses == .two then [(2, busParam u.sxp 1 k)] else []) = _
  rw [hi, word, word]
  cases s.inst.buses <;> simp

/-- One word for the chip (R354, R365, R357, R368). -/
theorem get_after_setChipParam (k : BParam)
    (sets : exec set s = .next (resultStaged Param.complete [] (setBusParam 0 k s.reg.mbin[1] s)))
    (gets : exec get u = .next (resultStaged Param.complete [(1, busParam u.sxp 0 k)] u)) :
    exec set s = .next t → exec get u = .next (resultStaged Param.complete [(1, s.reg.mbin[1])] u) := by
  refine get_after_set hb sets gets fun same => ?_
  rw [busParam_congr same, busParam_setBusParam, if_pos ⟨rfl, rfl⟩]

/-- The parameters of a target, with `p` those that the SET leaves and `words` what the GET answers of them (R358, R359, R369,
R370). -/
theorem get_after_setTarget {b : Fin 2} {k : Fin 128} {p : TargetParam} {words : TargetParam → List (Fin 8 × Word)}
    (sets : exec set s = .next (resultStaged Param.complete [] v)) (param : targetParam v.sxp b k = p)
    (gets : exec get u = .next (resultStaged Param.complete (words (targetParam u.sxp b k)) u)) :
    exec set s = .next t → exec get u = .next (resultStaged Param.complete (words p) u) :=
  get_after_set hb sets gets fun same => by rw [targetParam_congr same, param]

end

/-- Settles O35: the parameters that the GET reads are those that the SET left, in which the words stand. -/
theorem parameterRoundTrips : Obligations.ParameterRoundTrips := by
  refine fun s t u hi hb => ⟨fun p hp => ?perBus, ?retry, ?clock, ?pci, fun valid target => ?targets⟩
  case perBus =>
    simp only [List.mem_cons, List.not_mem_nil, or_false] at hp
    rcases hp with rfl | rfl | rfl | rfl | rfl | rfl <;> exact get_after_setBusParams hb hi _ rfl rfl
  case retry =>
    refine get_after_set hb (next_takeMailbox_result (bodySetRetryCount_taken s))
      (next_takeMailbox_result (bodyGetRetryCount_eq (taken u))) fun same => ?_
    have word (b : Fin 2) (k : BParam) := (busParam_congr same b k).trans ((busParamsSet_retryWordsStored s).busParams b k)
    change (1, busParam u.sxp 0 .retryCount) :: (2, busParam u.sxp 0 .retryDelay) :: (if u.inst.buses == .two then
      [(6, busParam u.sxp 1 .retryCount), (7, busParam u.sxp 1 .retryDelay)] else []) = _
    rw [hi, word, word, word, word]
    cases s.inst.buses <;> simp
  case clock => exact get_after_setChipParam hb .clockRate (next_takeMailbox_result rfl) (next_takeMailbox_result rfl)
  case pci => exact get_after_setChipParam hb .pciParams (next_takeMailbox_result rfl) (next_takeMailbox_result rfl)
  case targets =>
    have validLater : btOk u.inst u.reg.mbin[1] = true := by rwa [hi, target]
    obtain ⟨getParams, getQueue, -, -⟩ := targetParameterCommands u validLater
    obtain ⟨-, -, ⟨_, setParams, params, -⟩, _, setQueue, queue, -⟩ := targetParameterCommands s valid
    rw [target] at getParams getQueue
    have whole : s.reg.mbin[3].extractLsb' 8 8 ++ s.reg.mbin[3].extractLsb' 0 8 = s.reg.mbin[3] := append_halves (n := 8) _
    constructor
    · have back := get_after_setTarget hb setParams ((params _ _).trans (if_pos ⟨rfl, rfl⟩))
        (words := fun p => [(1, s.reg.mbin[1]), (2, p.flags), (3, p.syncOffset ++ p.syncPeriod)]) getParams
      simp only [whole] at back
      exact back
    · exact get_after_setTarget hb setQueue ((queue _ _).trans (if_pos ⟨rfl, rfl⟩))
        (words := fun p => [(2, p.queue0), (3, p.queue1)]) getQueue

end Sys2Proof.Proofs
end

section
/-! Firmware memory (R302 to R310): what a run of words written is read back as, the words and bytes of a block transfer, and the
commands that load, dump, read, write and sum it. -/

namespace Sys2Proof.Proofs

open Sys2Proof.Machine Sys2Proof.Safety Sys2Proof.Laws

/-! ### Runs of words -/

theorem word_add_ofNat_succ (a : Word) (k : Nat) : a + BitVec.ofNat 16 (k + 1) = a + 1 + BitVec.ofNat 16 k := by
  rw [Nat.add_comm, BitVec.ofNat_add, ← BitVec.add_assoc]
  rfl

theorem word_add_ofNat_sub {k : Nat} (h : k < 2 ^ 16) (a : Word) : (a + BitVec.ofNat 16 k - a).toNat = k := by
  rw [BitVec.add_comm, BitVec.add_sub_cancel, BitVec.toNat_ofNat, Nat.mod_eq_of_lt h]

/-- In canonical form, a run of words that goes around firmware memory at most once is read back, and every other word reads as
before (R59, R93). -/
theorem fwRead_fwWriteWords {s : State} (h : Memory.wf fwDefault s.fw = true) {ws : List Word} (hn : ws.length ≤ 2 ^ 16)
    (a x : Word) :
    fwRead (fwWriteWords s a ws) x = if (x - a).toNat < ws.length then ws.getD (x - a).toNat 0 else fwRead s x := by
  induction ws generalizing s a with
  | nil => rfl
  | cons w ws ih =>
    have hlen : ws.length + 1 ≤ 2 ^ 16 := hn
    have rest := ih (s := fwWrite s a w) (memory_wf_write h a.toNat w) (by omega) (a + 1)
    rw [fwWriteWords]
    refine rest.trans ?_
    rw [fwRead_fwWrite h, List.length_cons]
    by_cases hx : x = a
    · have first : (x - a).toNat = 0 := by simp [hx]
      have last : (x - (a + 1)).toNat = 2 ^ 16 - 1 := by bv_omega
      rw [first, last, if_neg (by omega), if_pos hx, if_pos (Nat.succ_pos _), List.getD_cons_zero]
    · have next : (x - a).toNat = (x - (a + 1)).toNat + 1 := by bv_omega
      simp only [next, List.getD_cons_succ, hx, if_false, Nat.add_lt_add_iff_right]

/-- A run of word writes and a change of the engine or the environment do not meet. -/
theorem fwWriteWords_with (s : State) (x : Sxp) (e : Env) (a : Word) (ws : List Word) :
    fwWriteWords { s with sxp := x, env := e } a ws = { s with fw := (fwWriteWords s a ws).fw, sxp := x, env := e } := by
  induction ws generalizing s a with
  | nil => rfl
  | cons w ws ih => exact ih (fwWrite s a w) (a + 1)

theorem fwReadWords_eq_map (s : State) (a : Word) (n : Nat) :
    fwReadWords s a n = (List.range n).map fun k => fwRead s (a + BitVec.ofNat 16 k) := by
  induction n generalizing a with
  | zero => rfl
  | succ n ih =>
    have start : a + BitVec.ofNat 16 0 = a := BitVec.add_zero a
    simp only [fwReadWords, ih, List.range_succ_eq_map, List.map_cons, List.map_map, Function.comp_def, word_add_ofNat_succ,
      Nat.succ_eq_add_one, start]

/-! ### Words and their bytes -/

/-- A stream of pairs of bytes is the stream of their words (R302). -/
theorem wordsOf_pairs (f : Nat → Byte) (n : Nat) :
    wordsOf ((List.range (2 * n)).map f) = (List.range n).map fun k => f (2 * k + 1) ++ f (2 * k) := by
  induction n generalizing f with
  | zero => rfl
  | succ n ih =>
    have two : List.range (2 * (n + 1)) = 0 :: 1 :: (List.range (2 * n)).map (· + 2) := by
      simp [Nat.mul_succ, List.range_succ_eq_map, Function.comp_def]
    have shifted := ih fun k => f (k + 2)
    rw [two, List.range_succ_eq_map]
    simpa [wordsOf, Function.comp_def, Nat.mul_succ, Nat.add_right_comm] using shifted

/-- The bytes of a stream of words: byte `j` is half `j % 2` of word `j / 2` (R303). -/
theorem flatMap_put16 (f : Nat → Word) (n : Nat) :
    ((List.range n).map f).flatMap put16 =
      (List.range (2 * n)).map fun j => (f (j / 2)).extractLsb' (8 * (j % 2)) 8 := by
  induction n with
  | zero => rfl
  | succ n ih =>
    have half : (2 * n + 1) / 2 = n := by omega
    have odd : (2 * n + 1) % 2 = 1 := by omega
    rw [List.range_succ, List.map_append, List.flatMap_append, ih, Nat.mul_succ, List.range_succ, List.range_succ]
    simp [put16, half, odd]

/-- Words added one by one are their sum modulo 65536 (R307). -/
theorem foldl_add_eq (ws : List Word) (v : Word) :
    ws.foldl (· + ·) v = v + BitVec.ofNat 16 (ws.map BitVec.toNat).sum := by
  induction ws generalizing v with
  | nil => exact (BitVec.add_zero v).symm
  | cons w ws ih =>
    rw [List.foldl_cons, ih, List.map_cons, List.sum_cons, BitVec.ofNat_add, BitVec.ofNat_toNat, BitVec.setWidth_eq,
      BitVec.add_assoc]

/-! ### Single words, four words and sums -/

theorem fwOk_iff {a : Word} {n : Nat} : fwOk a n = true ↔ a.toNat + n ≤ 0x10000 := decide_eq_true_iff

theorem fwOk_eq_false_iff {a : Word} {n : Nat} : fwOk a n = false ↔ 0x10000 < a.toNat + n :=
  decide_eq_false_iff_not.trans Nat.not_le

theorem fw_wf {s : State} (h : memoriesWf s = true) : Memory.wf fwDefault s.fw = true := by
  obtain ⟨-, fw, -⟩ := (memoriesWf_iff s).1 h
  exact fw.1

/-- Four words written are read back, each at its own address. -/
theorem fwRead_fwWriteWords_four {s : State} (h : Memory.wf fwDefault s.fw = true) (a v0 v1 v2 v3 x : Word) :
    fwRead (fwWriteWords s a [v0, v1, v2, v3]) x =
      if x = a then v0 else if x = a + 1 then v1 else if x = a + 2 then v2 else if x = a + 3 then v3 else fwRead s x := by
  have back := fwRead_fwWriteWords h (ws := [v0, v1, v2, v3]) (Nat.le_of_ble_eq_true rfl) a x
  have at0 : x = a ↔ (x - a).toNat = 0 := by bv_omega
  have at1 : x = a + 1 ↔ (x - a).toNat = 1 := by bv_omega
  have at2 : x = a + 2 ↔ (x - a).toNat = 2 := by bv_omega
  have at3 : x = a + 3 ↔ (x - a).toNat = 3 := by bv_omega
  simp only [back, at0, at1, at2, at3]
  match (x - a).toNat with
  | 0 | 1 | 2 | 3 | n + 4 => simp

/-- Settles O21: a run of one word and of four. -/
theorem firmwareWordCommands : Obligations.FirmwareWordCommands := by
  intro s hm a
  have wf := fw_wf hm
  refine ⟨⟨_, next_takeMailbox_result (body := bodyWriteRamWord) rfl, fwRead_fwWrite wf a _⟩, next_takeMailbox_result rfl,
    fun inside => ⟨?readFour, ?writeFour⟩, fun outside => ⟨?readNone, ?writeNone⟩⟩
  case readFour => exact next_takeMailbox_result (if_pos (fwOk_iff.2 inside))
  case writeFour =>
    exact ⟨(fwWriteWords s a [s.reg.mbin[2], s.reg.mbin[3], s.reg.mbin[4], s.reg.mbin[5]]).fw,
      next_takeMailbox_result (if_pos (fwOk_iff.2 inside)), fwRead_fwWriteWords_four wf a _ _ _ _⟩
  case readNone => exact next_takeMailbox_result (if_neg (ne_true_of_eq_false (fwOk_eq_false_iff.2 outside)))
  case writeNone => exact next_takeMailbox_result (if_neg (ne_true_of_eq_false (fwOk_eq_false_iff.2 outside)))

/-- The words of firmware memory added one by one (R307). -/
theorem foldl_add_fwReadWords (s : State) (a : Word) (n : Nat) : (fwReadWords s a n).foldl (· + ·) 0 =
    BitVec.ofNat 16 ((List.range n).map fun k => (fwRead s (a + BitVec.ofNat 16 k)).toNat).sum := by
  rw [foldl_add_eq, fwReadWords_eq_map, List.map_map]
  exact BitVec.zero_add _

/-- Settles O25: the words added one by one are their sum modulo 65536. -/
theorem verifyChecksumCommand : Obligations.VerifyChecksumCommand := by
  intro s a len sum
  refine ⟨fun inside => ?sum, fun outside => ?outside⟩
  case sum =>
    refine next_takeMailbox_result ((if_pos (fwOk_iff.2 inside)).trans ?_)
    rw [foldl_add_fwReadWords]
    rfl
  case outside => exact next_takeMailbox_result (if_neg (ne_true_of_eq_false (fwOk_eq_false_iff.2 outside)))

/-! ### Block transfers -/

/-- The words of host memory from `h` on, little-endian (R302). -/
def hostWords (m : List Host.Cell) (h : Addr) (n : Nat) : List Word :=
  (List.range n).map fun k => Memory.read hostDefault m (h + BitVec.ofNat 64 (2 * k + 1)).toNat
    ++ Memory.read hostDefault m (h + BitVec.ofNat 64 (2 * k)).toNat

theorem wordsOf_readBytes (m : List Host.Cell) (h : Addr) (n : Nat) : wordsOf (readBytes m h (2 * n)) = hostWords m h n := by
  rw [readBytes_eq_map, wordsOf_pairs, hostWords]

/-- The bytes of the words of firmware memory from `a` on, little-endian (R303). -/
def fwBytes (s : State) (a : Word) (n : Nat) : List Byte :=
  (List.range (2 * n)).map fun j => (fwRead s (a + BitVec.ofNat 16 (j / 2))).extractLsb' (8 * (j % 2)) 8

theorem flatMap_fwReadWords (s : State) (a : Word) (n : Nat) : (fwReadWords s a n).flatMap put16 = fwBytes s a n := by
  rw [fwReadWords_eq_map, flatMap_put16, fwBytes]

theorem length_hostWords (m : List Host.Cell) (h : Addr) (n : Nat) : (hostWords m h n).length = n := by
  simp [hostWords]

theorem length_fwBytes (s : State) (a : Word) (n : Nat) : (fwBytes s a n).length = 2 * n := by
  simp [fwBytes]

section

variable {s : State} (h : Addr)

/-- No words to load: no DMA call, and nothing is written (R302; log 21). -/
theorem loadRam_none (empty : s.reg.mbin[4].toNat = 0) : loadRam h s = completed [] s := by
  have inside : fwOk s.reg.mbin[1] 0 = true := fwOk_iff.2 s.reg.mbin[1].isLt.le
  simp only [loadRam, empty, inside, if_true]
  rfl

/-- No words to dump: no DMA call, and nothing is written (R303; log 21). -/
theorem dumpRam_none (empty : s.reg.mbin[4].toNat = 0) : dumpRam h s = completed [] s := by
  have inside : fwOk s.reg.mbin[1] 0 = true := fwOk_iff.2 s.reg.mbin[1].isLt.le
  simp only [dumpRam, empty, inside, if_true]
  rfl

/-- A range that is not in firmware memory (R383). -/
theorem loadRam_outside (outside : 0x10000 < s.reg.mbin[1].toNat + s.reg.mbin[4].toNat) : loadRam h s = badParam s :=
  if_neg (ne_true_of_eq_false (fwOk_eq_false_iff.2 outside))

theorem dumpRam_outside (outside : 0x10000 < s.reg.mbin[1].toNat + s.reg.mbin[4].toNat) : dumpRam h s = badParam s :=
  if_neg (ne_true_of_eq_false (fwOk_eq_false_iff.2 outside))

variable (inside : s.reg.mbin[1].toNat + s.reg.mbin[4].toNat ≤ 0x10000) (words : s.reg.mbin[4].toNat ≠ 0) {q : List Bool}

include inside words

/-- A load that the DMA interface grants (R302, R309). -/
theorem loadRam_granted (hd : s.env.oracle.dma = true :: q) : loadRam h s =
    completed [] (fwWriteWords (dmaLeft q s) s.reg.mbin[1] (hostWords s.env.hostMem h s.reg.mbin[4].toNat)) := by
  have read := memRead_granted hd h (n := 2 * s.reg.mbin[4].toNat) (by omega)
  simp only [loadRam, fwOk_iff.2 inside, if_true, read, wordsOf_readBytes]
  rfl

/-- A load that the DMA interface refuses (R381). -/
theorem loadRam_refused (hd : s.env.oracle.dma = false :: q) :
    loadRam h s = .result Param.hostInterfaceError [] (dmaLeft q s) := by
  have read := memRead_refused hd h (n := 2 * s.reg.mbin[4].toNat) (by omega)
  simp only [loadRam, fwOk_iff.2 inside, if_true, read]
  rfl

/-- A dump that the DMA interface grants (R303, R310). -/
theorem dumpRam_granted (hd : s.env.oracle.dma = true :: q) : dumpRam h s =
    completed [] (hostStore (dmaLeft q s) h (fwBytes s s.reg.mbin[1] s.reg.mbin[4].toNat)) := by
  have bytes : fwBytes s s.reg.mbin[1] s.reg.mbin[4].toNat ≠ [] :=
    List.ne_nil_of_length_pos (by rw [length_fwBytes]; omega)
  simp only [dumpRam, fwOk_iff.2 inside, if_true, flatMap_fwReadWords, memWrite_granted hd h bytes]
  rfl

/-- A dump that the DMA interface refuses (R381). -/
theorem dumpRam_refused (hd : s.env.oracle.dma = false :: q) :
    dumpRam h s = .result Param.hostInterfaceError [] (dmaLeft q s) := by
  have bytes : fwBytes s s.reg.mbin[1] s.reg.mbin[4].toNat ≠ [] :=
    List.ne_nil_of_length_pos (by rw [length_fwBytes]; omega)
  simp only [dumpRam, fwOk_iff.2 inside, if_true, flatMap_fwReadWords, memWrite_refused hd h bytes]
  rfl

end

/-- Settles O24: the range is checked before the one call of the DMA interface is made. -/
theorem blockTransferFailures : Obligations.BlockTransferFailures := by
  intro s i hi
  simp only [List.mem_cons, List.not_mem_nil, or_false] at hi
  refine ⟨fun outside => ?range, fun q inside words hd => ?refused⟩
  case range =>
    rcases hi with rfl | rfl | rfl | rfl
    · exact next_takeMailbox_result (loadRam_outside (s := taken s) _ outside)
    · exact next_takeMailbox_result (loadRam_outside (s := taken s) _ outside)
    · exact next_takeMailbox_result (dumpRam_outside (s := taken s) _ outside)
    · exact next_takeMailbox_result (dumpRam_outside (s := taken s) _ outside)
  case refused =>
    have moved : s.reg.mbin[4].toNat ≠ 0 := fun empty => words (BitVec.eq_of_toNat_eq empty)
    rcases hi with rfl | rfl | rfl | rfl
    · exact next_takeMailbox_result (t := dmaLeft q s) (loadRam_refused (s := taken s) _ inside moved hd)
    · exact next_takeMailbox_result (t := dmaLeft q s) (loadRam_refused (s := taken s) _ inside moved hd)
    · exact next_takeMailbox_result (t := dmaLeft q s) (dumpRam_refused (s := taken s) _ inside moved hd)
    · exact next_takeMailbox_result (t := dmaLeft q s) (dumpRam_refused (s := taken s) _ inside moved hd)


/-- The pass of a load that the DMA interface grants. -/
theorem next_takeMailbox_loadRam {h : Addr} {s : State} {q : List Bool} {body : State → MboxAnswer}
    (hb : body (taken s) = loadRam h (taken s)) (inside : s.reg.mbin[1].toNat + s.reg.mbin[4].toNat ≤ 0x10000)
    (words : s.reg.mbin[4].toNat ≠ 0) (hd : s.env.oracle.dma = true :: q) :
    (.next (resume (takeMailbox body s)) : Result) = .next (resultStaged Param.complete [] { dmaLeft q s with
      fw := (fwWriteWords s s.reg.mbin[1] (hostWords s.env.hostMem h s.reg.mbin[4].toNat)).fw }) := by
  have loads := (hb.trans (loadRam_granted h (s := taken s) inside words hd)).trans
    (congrArg (completed []) (fwWriteWords_with s (taken s).sxp (dmaLeft q s).env _ _))
  exact next_takeMailbox_result (t := { dmaLeft q s with fw := _ }) loads

/-- Settles O22: the words of host memory are written one by one, around firmware memory at most once. -/
theorem loadRamCommands : Obligations.LoadRamCommands := by
  intro s hm a n p hp
  simp only [List.mem_cons, List.not_mem_nil, or_false] at hp
  refine ⟨fun empty => ?empty, fun q words inside hd => ?words⟩
  case empty =>
    rcases hp with rfl | rfl <;> exact next_takeMailbox_result (loadRam_none (s := taken s) _ empty)
  case words =>
    have len : (hostWords s.env.hostMem p.2 n).length = n := length_hostWords _ _ _
    have fits : (hostWords s.env.hostMem p.2 n).length ≤ 2 ^ 16 := by rw [len]; omega
    have back := fwRead_fwWriteWords (fw_wf hm) fits a
    rw [len] at back
    refine ⟨(fwWriteWords s a (hostWords s.env.hostMem p.2 n)).fw, ?next, fun k hk => ?loaded, fun x hx => ?kept⟩
    case next =>
      rcases hp with rfl | rfl
      · exact next_takeMailbox_loadRam (h := hostAddr32 s.reg.mbin) (body := bodyLoadRam) rfl inside words.ne' hd
      · exact next_takeMailbox_loadRam (h := hostAddr64 s.reg.mbin) (body := bodyLoadRamA64) rfl inside words.ne' hd
    case loaded =>
      have place : (a + BitVec.ofNat 16 k - a).toNat = k := word_add_ofNat_sub (by omega) a
      refine (back _).trans ?_
      rw [place, if_pos hk]
      simp [hostWords, hk]
    case kept =>
      have away : ¬(x - a).toNat < n := by bv_omega
      exact (back x).trans (if_neg away)

/-- Settles O23: the bytes of the words are stored in one call. -/
theorem dumpRamCommands : Obligations.DumpRamCommands := by
  intro s hm a n p hp
  simp only [List.mem_cons, List.not_mem_nil, or_false] at hp
  refine ⟨fun empty => ?empty, fun q words inside hd => ?words⟩
  case empty =>
    rcases hp with rfl | rfl <;> exact next_takeMailbox_result (dumpRam_none (s := taken s) _ empty)
  case words =>
    obtain ⟨host, -, -⟩ := (memoriesWf_iff s).1 hm
    have fits : (fwBytes s a n).length ≤ 2 ^ 64 := by rw [length_fwBytes]; omega
    refine ⟨_, ?next, storedAt_writeBytes host.1 _ fits⟩
    rcases hp with rfl | rfl <;>
      exact next_takeMailbox_result (t := hostStore (dmaLeft q s) _ _) (dumpRam_granted (s := taken s) _ inside words.ne' hd)

end Sys2Proof.Proofs
end

section
/-! The mailbox commands of the rings, of direct requests and of the bus (R314 to R319, R325, R334, R340). -/

namespace Sys2Proof.Proofs

open Sys2Proof.Machine Sys2Proof.Safety Sys2Proof.Laws

/-! ### Rings -/

/-- The pass of a command that initialises the request ring (R314, R316). -/
theorem next_takeMailbox_initReqQueue {body : State → MboxAnswer} {h : Addr} {s : State}
    (hb : body (taken s) = initReqQueue h (taken s)) :
    (.next (resume (takeMailbox body s)) : Result) =
      .next (if h = 0 ∨ s.reg.mbin[1] = 0 then resultStaged Param.paramError [] s
        else resultStaged Param.complete [(Param.reqSlot, 0)] { s with sxp := { s.sxp with
          reqBase := h, reqLen := s.reg.mbin[1], reqOut := 0, reqInit := true, abortQ := [] } }) := by
  split
  · next bad => exact next_takeMailbox_result (hb.trans (if_pos bad))
  · next good => exact next_takeMailbox_result (hb.trans (if_neg good))

/-- The pass of a command that initialises the response ring (R315, R317). -/
theorem next_takeMailbox_initResQueue {body : State → MboxAnswer} {h : Addr} {s : State}
    (hb : body (taken s) = initResQueue h (taken s)) :
    (.next (resume (takeMailbox body s)) : Result) =
      .next (if h = 0 ∨ s.reg.mbin[1] = 0 then resultStaged Param.paramError [] s
        else resultStaged Param.complete [(Param.respSlot, 0)] { s with sxp := { s.sxp with
          respBase := h, respLen := s.reg.mbin[1], respIn := 0, respInit := true } }) := by
  split
  · next bad => exact next_takeMailbox_result (hb.trans (if_pos bad))
  · next good => exact next_takeMailbox_result (hb.trans (if_neg good))

/-- Settles O27: each ring's rule, at the 32-bit and the 64-bit address. -/
theorem queueInitialisation : Obligations.QueueInitialisation := by
  refine fun s => ⟨fun p hp => ?request, fun p hp => ?response⟩
  case request =>
    simp only [List.mem_cons, List.not_mem_nil, or_false] at hp
    rcases hp with rfl | rfl
    · exact next_takeMailbox_initReqQueue (body := bodyInitReqQueue) rfl
    · exact next_takeMailbox_initReqQueue (body := bodyInitReqQueueA64) rfl
  case response =>
    simp only [List.mem_cons, List.not_mem_nil, or_false] at hp
    rcases hp with rfl | rfl
    · exact next_takeMailbox_initResQueue (body := bodyInitResQueue) rfl
    · exact next_takeMailbox_initResQueue (body := bodyInitResQueueA64) rfl

/-! ### Direct requests -/

/-- A pass is not running once it has ended (R400). -/
theorem runPass_running (n : Nat) (s : State) : (runPass n s).sxp.running = false := by
  induction n generalizing s with
  | zero => rfl
  | succ n ih =>
    rw [runPass]
    split
    · exact ih _
    · rfl
    · rfl

/-- Where the descriptor of a direct request comes from (R402). -/
def directOrigin : DirectReq → Origin
  | .exec a _ => .direct a
  | .bios a => .bios a

/-- Where the descriptor of a direct request stands (R402). -/
def directAddr : DirectReq → Addr
  | .exec a _ | .bios a => a

/-- A direct request whose read the DMA interface grants is taken (R402). -/
theorem fetchDirect_granted {s : State} {q : List Bool} (hd : s.env.oracle.dma = true :: q) (d : DirectReq) :
    fetchDirect d s = .descriptor (directOrigin d) (readBytes s.env.hostMem (directAddr d) Param.iocbSize)
      (dmaLeft q { s with sxp := { s.sxp with directReq := none } }) := by
  have read := memRead_granted (s := { s with sxp := { s.sxp with directReq := none } }) hd (directAddr d)
    (by decide : Param.iocbSize ≠ 0)
  cases d <;> simp only [fetchDirect, directAddr] at read ⊢ <;> rw [read] <;> rfl

/-- The pass has taken the command, which queued a direct request (R401). -/
def directQueued (d : DirectReq) (s : State) : State :=
  { s with sxp := { s.sxp with mboxCmdPending := false, directReq := some d, running := true } }

theorem resume_takeMailbox_pending {body : State → MboxAnswer} {s t : State}
    (h : body { s with sxp := { s.sxp with mboxCmdPending := false } } = .pending t) :
    resume (takeMailbox body s) = resume t := by
  rw [takeMailbox, h]

/-- The pass of a command that queues a direct request: an idle engine fetches the descriptor and runs it, past the rings
(R319, R334, R340, R402). -/
theorem next_takeMailbox_queueDirect {body : State → MboxAnswer} {d : DirectReq} {s : State} {q : List Bool}
    (hb : body (taken s) = queueDirect d (taken s)) (hs : s.sxp.state = .idle) (hd : s.env.oracle.dma = true :: q) :
    (.next (resume (takeMailbox body s)) : Result) =
      exec (iocbInstr (directOrigin d) (readBytes s.env.hostMem (directAddr d) Param.iocbSize)) { s with
        sxp := { s.sxp with mboxCmdPending := false, directReq := none, running := true }
        env := { s.env with oracle := { s.env.oracle with dma := q } } } := by
  have passes : resume (takeMailbox body s) = runPass passFuel (directQueued d s) := resume_takeMailbox_pending hb
  have fetched := runPass_idle_fetch (s := directQueued d s) hs rfl Bool.false_ne_true
  have found : fetch (directQueued d s) = fetchDirect d (directQueued d s) := rfl
  rw [found, fetchDirect_granted (s := directQueued d s) hd] at fetched
  rw [exec_iocbInstr, passes, fetched]
  rfl

/-- Settles O28: the command leaves the engine idle with the direct request as its next work. -/
theorem executeIocbHandsOff : Obligations.ExecuteIocbHandsOff := by
  intro s q hs hd h32 h64 handsOff
  have ends (body : State → MboxAnswer) :
      ∃ t, (.next (resume (takeMailbox body s)) : Result) = .next t ∧ t.sxp.running = false :=
    ⟨_, rfl, runPass_running _ _⟩
  refine ⟨⟨?direct, ends _⟩, ⟨?bios, ends _⟩, ?a64⟩
  case direct => exact next_takeMailbox_queueDirect (body := bodyExecuteIocb) (d := .exec h32 false) rfl hs hd
  case bios => exact next_takeMailbox_queueDirect (body := bodyExecuteBiosIocb) (d := .bios h32) rfl hs hd
  case a64 =>
    split
    · next length =>
      have accepted : bodyExecuteIocbA64 (taken s) = queueDirect (.exec h64 true) (taken s) := if_neg (not_not.2 length)
      exact ⟨next_takeMailbox_queueDirect accepted hs hd, ends _⟩
    · next length => exact next_takeMailbox_result (if_pos length)

/-! ### Reset of the bus -/

/-- With an answer queued for each target, the targets answered present are reset, in the order of their ids (R325). -/
theorem resetTargets_eq (ps rest : List Bool) (t : Nat) (s : State) (hp : s.env.oracle.present = ps ++ rest) :
    resetTargets t ps.length s = { s with env := { s.env with
      oracle := { s.env.oracle with present := rest }
      calls := (((List.range' t ps.length).filter fun u => ps.getD (u - t) false).map OracleCall.targetReset).reverse
        ++ s.env.calls } } := by
  induction ps generalizing t s with
  | nil => subst hp; rfl
  | cons p ps ih =>
    have later : (List.range' (t + 1) ps.length).filter (fun u => (p :: ps).getD (u - t) false)
        = (List.range' (t + 1) ps.length).filter fun u => ps.getD (u - (t + 1)) false := by
      refine List.filter_congr fun u hu => ?_
      obtain ⟨above, -⟩ := List.mem_range'_1.1 hu
      rw [show u - t = u - (t + 1) + 1 by omega, List.getD_cons_succ]
    rw [List.length_cons, resetTargets, drawPresent_cons hp, List.range'_succ, List.filter_cons, later]
    cases p <;> refine (ih (t + 1) _ rfl).trans ?_ <;> simp

/-- Settles O31: the rule asks for each target of bus 0, and for none of bus 1. -/
theorem busResetCommand : Obligations.BusResetCommand := by
  refine fun s => ⟨fun ps rest bus0 len present => ?bus0, fun bus1 two => ?bus1, fun outside => ?outside⟩
  case bus0 =>
    have there : ¬numBuses s.inst.buses ≤ s.reg.mbin[2].toNat := by
      rw [bus0]
      cases s.inst.buses <;> decide
    have reset := resetTargets_eq ps rest 0 (taken s) present
    rw [len, ← List.range_eq_range'] at reset
    exact next_takeMailbox_result
      (t := { s with env := { s.env with oracle := { s.env.oracle with present := rest }, calls := _ } })
      (((if_neg there).trans (if_pos bus0)).trans (congrArg (completed []) reset))
  case bus1 =>
    have there : ¬numBuses s.inst.buses ≤ s.reg.mbin[2].toNat := by
      rw [bus1, two]
      decide
    have other : s.reg.mbin[2] ≠ 0 := by
      rw [bus1]
      decide
    exact next_takeMailbox_result ((if_neg there).trans (if_neg other))
  case outside => exact next_takeMailbox_result (if_pos outside)

end Sys2Proof.Proofs
end

section
/-! The aborts (R321 to R324, R329): the slots that a scan of the ring reads, the slots that it marks, and where it ends. -/

namespace Sys2Proof.Proofs

open Sys2Proof.Machine Sys2Proof.Safety Sys2Proof.Laws

/-! ### The slots of a scan -/

/-- The `n` slots from `slot` on, in a ring of `len` entries (R324). -/
def slotsFrom (len : Word) : Nat → Word → List Word
  | 0, _ => []
  | n + 1, slot => slot :: slotsFrom len n (ringAdd slot 1 len)

theorem slotsFrom_eq_map {len slot : Word} (h : slot.toNat < len.toNat) (n : Nat) :
    slotsFrom len n slot = (List.range n).map fun j => BitVec.ofNat 16 ((slot.toNat + j) % len.toNat) := by
  induction n generalizing slot with
  | zero => rfl
  | succ n ih =>
    have ring : 0 < len.toNat := by omega
    have first : BitVec.ofNat 16 ((slot.toNat + 0) % len.toNat) = slot := by
      rw [Nat.add_zero, Nat.mod_eq_of_lt h, BitVec.ofNat_toNat, BitVec.setWidth_eq]
    have later (j : Nat) : ((slot.toNat + 1) % len.toNat + j) % len.toNat = (slot.toNat + (j + 1)) % len.toNat := by
      rw [Nat.mod_add_mod, Nat.add_assoc, Nat.add_comm 1]
    rw [slotsFrom, ih (ringAdd_lt slot 1 ring), ringAdd_toNat slot 1 ring, List.range_succ_eq_map, List.map_cons, List.map_map,
      first]
    exact congrArg _ (List.map_congr_left fun j _ => congrArg _ (later j))

/-- No more slots than the ring has are all different. -/
theorem nodup_slotsFrom {len slot : Word} (h : slot.toNat < len.toNat) {n : Nat} (hn : n ≤ len.toNat) :
    (slotsFrom len n slot).Nodup := by
  rw [slotsFrom_eq_map h]
  refine List.Nodup.map_on (fun i hi j hj same => ?_) List.nodup_range
  have small (k : Nat) : (slot.toNat + k) % len.toNat < 2 ^ 16 := (Nat.mod_lt _ (by omega)).trans len.isLt
  have places : (slot.toNat + i) % len.toNat = (slot.toNat + j) % len.toNat := by
    simpa only [BitVec.toNat_ofNat, Nat.mod_eq_of_lt (small _)] using congrArg BitVec.toNat same
  exact Nat.ModEq.eq_of_lt_of_lt (Nat.ModEq.add_left_cancel' _ places) ((List.mem_range.1 hi).trans_le hn)
    ((List.mem_range.1 hj).trans_le hn)

/-- How many slots are pending, in natural numbers (R324). -/
theorem ringPending_eq {rin rout len : Word} (h : rout.toNat < len.toNat) :
    ringPending rin rout len = (rin.toNat % len.toNat + len.toNat - rout.toNat) % len.toNat := by
  have ring : (rin.toNat % len.toNat : Int) - rout.toNat + len.toNat
      = ((rin.toNat % len.toNat + len.toNat - rout.toNat : Nat) : Int) := by omega
  rw [ringPending, ringMod_toNat, ← Int.add_emod_right, Int.natCast_mod, ring, ← Int.natCast_mod, Int.toNat_natCast]

/-! ### The slots that are marked -/

/-- The abort queue `q` once the slots are marked that are wanted and not in it, in order, as far as it has room (R324). -/
def addMarks (wanted : Word → Bool) (slots q : List Word) : List Word :=
  q ++ (slots.filter fun k => !q.contains k && wanted k).take (Config.abortQLen - q.length)

theorem addMarks_nil (wanted : Word → Bool) (q : List Word) : addMarks wanted [] q = q := by
  simp [addMarks]

/-- One slot is marked if it may be (R324). -/
theorem markAborted_eq (wanted : Word → Bool) (slot : Word) (s : State) :
    (if wanted slot then markAborted slot s else s) =
      { s with sxp := { s.sxp with abortQ := addMarks wanted [slot] s.sxp.abortQ } } := by
  cases hw : wanted slot
  · simp [addMarks, hw]
  · by_cases hq : slot ∈ s.sxp.abortQ
    · simp [addMarks, markAborted, hq]
    · by_cases room : s.sxp.abortQ.length < Config.abortQLen
      · have one : 1 ≤ Config.abortQLen - s.sxp.abortQ.length := by omega
        simp [addMarks, markAborted, hq, hw, room, List.take_of_length_le, one]
      · have full : Config.abortQLen - s.sxp.abortQ.length = 0 := by omega
        simp [addMarks, markAborted, room, full]

/-- Marking slots one by one is marking them together, if they are different. -/
theorem addMarks_cons (wanted : Word → Bool) {slot : Word} {slots : List Word} (h : slot ∉ slots) (q : List Word) :
    addMarks wanted (slot :: slots) q = addMarks wanted slots (addMarks wanted [slot] q) := by
  by_cases room : q.length < Config.abortQLen
  · cases marked : !q.contains slot && wanted slot
    · simp only [addMarks, List.filter_cons, marked, Bool.false_eq_true, if_false, List.filter_nil, List.take_nil,
        List.append_nil]
    · obtain ⟨left, hleft⟩ : ∃ left, Config.abortQLen - q.length = left + 1 := ⟨_, (Nat.succ_pred (by omega)).symm⟩
      have less : Config.abortQLen - (q.length + 1) = left := by omega
      have others : slots.filter (fun k => !(q ++ [slot]).contains k && wanted k)
          = slots.filter fun k => !q.contains k && wanted k := by
        refine List.filter_congr fun k hk => ?_
        have other : k ≠ slot := fun same => h (same ▸ hk)
        simp [other]
      simp only [addMarks, List.filter_cons, marked, if_true, List.filter_nil, hleft, List.take_succ_cons, List.take_nil,
        List.length_append, List.length_singleton, less, others, List.append_assoc, List.singleton_append]
  · have full : Config.abortQLen - q.length = 0 := by omega
    simp [addMarks, full]

/-! ### The scan -/

/-- A read of host memory that takes an answer: what the first answer in the queue, if there is one, says of it. -/
theorem memRead_answered (s : State) (a : Addr) {n : Nat} (hn : n ≠ 0) :
    (memRead s a n = .ok (readBytes s.env.hostMem a n) { s with env := { s.env with oracle := dmaAsked 1 s.env.oracle } }
        ∧ s.env.oracle.dma[0]? ≠ some false)
      ∨ memRead s a n = .error { s with env := { s.env with oracle := dmaAsked 1 s.env.oracle } }
        ∧ s.env.oracle.dma[0]? ≠ some true := by
  have asked : min n 1 = 1 := by omega
  have cases := memRead_cases s a n
  rw [asked] at cases
  rcases hd : s.env.oracle.dma with _ | ⟨_ | _, q⟩
  · exact cases.imp (fun h => ⟨h, by simp⟩) (fun h => ⟨h, by simp⟩)
  · have refused := memRead_refused hd a hn
    refine .inr ⟨cases.resolve_left fun h => ?_, by simp⟩
    rw [refused] at h
    cases h
  · have granted := memRead_granted hd a hn
    refine .inl ⟨cases.resolve_right fun h => ?_, by simp⟩
    rw [granted] at h
    cases h

/-- The entry in a slot of the request ring (R97). -/
def slotEntry (s : State) (slot : Word) : List Byte :=
  readBytes s.env.hostMem (slotAddr s.sxp.reqBase slot) Param.iocbSize

/-- A slot holds a command that matches (R324). -/
def slotMatches (m : List Byte → Bool) (s : State) (slot : Word) : Bool :=
  isCommand (slotEntry s slot) && m (slotEntry s slot)

/-- A scan reads slots up to the first that the DMA interface refuses, and marks those of them that it should (R324). -/
theorem abortSlots_eq (m : List Byte → Bool) (n : Nat) (slot : Word) (s : State)
    (distinct : ∀ r, r ≤ n → (slotsFrom s.sxp.reqLen r slot).Nodup) :
    ∃ read calls, abortSlots m n slot s = { s with
        sxp := { s.sxp with abortQ := addMarks (slotMatches m s) (slotsFrom s.sxp.reqLen read slot) s.sxp.abortQ }
        env := { s.env with oracle := dmaAsked calls s.env.oracle } }
      ∧ (read = n ∧ calls = n ∨ read < n ∧ calls = read + 1 ∧ s.env.oracle.dma[read]? ≠ some true)
      ∧ ∀ j, j < read → s.env.oracle.dma[j]? ≠ some false := by
  induction n generalizing slot s with
  | zero =>
    refine ⟨0, 0, ?_, .inl ⟨rfl, rfl⟩, fun j hj => absurd hj (Nat.not_lt_zero j)⟩
    simp [abortSlots, slotsFrom, addMarks_nil]
  | succ n ih =>
    rw [abortSlots]
    rcases memRead_answered s (slotAddr s.sxp.reqBase slot) (by decide : Param.iocbSize ≠ 0) with ⟨h, yes⟩ | ⟨h, no⟩
    · obtain ⟨read, calls, scan, ends, granted⟩ := ih (ringAdd slot 1 s.sxp.reqLen) { s with
        sxp := { s.sxp with abortQ := addMarks (slotMatches m s) [slot] s.sxp.abortQ }
        env := { s.env with oracle := dmaAsked 1 s.env.oracle } }
        fun r hr => (List.nodup_cons.1 (distinct (r + 1) (Nat.succ_le_succ hr))).2
      have later (j : Nat) : (dmaAsked 1 s.env.oracle).dma[j]? = s.env.oracle.dma[j + 1]? := by
        simp [dmaAsked]
      simp only [later] at ends granted
      refine ⟨read + 1, calls + 1, ?scan, ?ends, fun j hj => ?granted⟩
      case scan =>
        have bound : read ≤ n := by rcases ends with ⟨all, -⟩ | ⟨early, -⟩ <;> omega
        have fresh := (List.nodup_cons.1 (distinct (read + 1) (Nat.succ_le_succ bound))).1
        rw [slotsFrom, addMarks_cons _ fresh, h]
        simp only []
        change abortSlots m n _ (if slotMatches m s slot then markAborted slot _ else _) = _
        rw [markAborted_eq]
        refine scan.trans ?_
        rw [dmaAsked_dmaAsked, Nat.add_comm 1]
        rfl
      case ends =>
        rcases ends with ⟨all, used⟩ | ⟨early, used, no⟩
        · exact .inl ⟨congrArg (· + 1) all, congrArg (· + 1) used⟩
        · exact .inr ⟨Nat.succ_lt_succ early, congrArg (· + 1) used, no⟩
      case granted =>
        cases j with
        | zero => exact yes
        | succ j => exact granted j (by omega)
    · refine ⟨0, 1, ?_, .inr ⟨Nat.succ_pos n, rfl, no⟩, fun j hj => absurd hj (Nat.not_lt_zero j)⟩
      rw [h, slotsFrom, addMarks_nil]

/-- How many slots are pending (R324). -/
def pendingSlots (s : State) : Nat :=
  (s.reg.mbin[4].toNat % s.sxp.reqLen.toNat + s.sxp.reqLen.toNat - s.sxp.reqOut.toNat) % s.sxp.reqLen.toNat

/-- Those of the first `n` pending slots that an abort should mark: not marked yet, and holding a command that matches. -/
def markableSlots (m : List Byte → Bool) (n : Nat) (s : State) : List Word :=
  ((List.range n).map fun j => BitVec.ofNat 16 ((s.sxp.reqOut.toNat + j) % s.sxp.reqLen.toNat)).filter fun k =>
    !s.sxp.abortQ.contains k && isCommand (slotEntry s k) && m (slotEntry s k)

/-- The state after an abort that marked what it should of the first `n` pending slots, with the oracle `o` left. -/
def slotsMarked (m : List Byte → Bool) (n : Nat) (o : Oracle) (s : State) : State :=
  { s with
    sxp := { s.sxp with
      abortQ := s.sxp.abortQ ++ (markableSlots m n s).take (Config.abortQLen - s.sxp.abortQ.length) }
    env := { s.env with oracle := o } }

/-- An active ring's consumer is inside it (R52). -/
theorem reqOut_lt {x : Sxp} (hw : ringsWf x = true) (init : x.reqInit = true) : x.reqOut.toNat < x.reqLen.toNat := by
  have rings := hw
  simp only [ringsWf, init, Bool.not_true, Bool.false_or, Bool.and_eq_true, decide_eq_true_eq] at rings
  exact rings.1

/-- The scan of an active ring: the pending slots up to the first that the DMA interface refuses (R324). -/
theorem abortScan_eq (m : List Byte → Bool) {s : State} (hw : ringsWf s.sxp = true) (req : s.sxp.reqInit = true)
    (resp : s.sxp.respInit = true) :
    ∃ read calls, abortScan m s = slotsMarked m read (dmaAsked calls s.env.oracle) s
      ∧ (read = pendingSlots s ∧ calls = pendingSlots s
        ∨ read < pendingSlots s ∧ calls = read + 1 ∧ s.env.oracle.dma[read]? ≠ some true)
      ∧ ∀ j, j < read → s.env.oracle.dma[j]? ≠ some false := by
  have inside := reqOut_lt hw req
  have active : ringsActive s.sxp = true := by rw [ringsActive, req, resp]; rfl
  have pending : ringPending s.reg.mbin[Param.reqSlot] s.sxp.reqOut s.sxp.reqLen = pendingSlots s := ringPending_eq inside
  have fits : pendingSlots s ≤ s.sxp.reqLen.toNat := (Nat.mod_lt _ (by omega)).le
  obtain ⟨read, calls, scan, ends⟩ := abortSlots_eq m (pendingSlots s) s.sxp.reqOut s
    fun r hr => nodup_slotsFrom inside (hr.trans fits)
  refine ⟨read, calls, ?_, ends⟩
  rw [abortScan, if_pos active, pending, scan, slotsFrom_eq_map inside, slotsMarked, markableSlots, addMarks]
  simp only [slotMatches, Bool.and_assoc]

/-! ### The commands -/

/-- The abort commands, and which commands of the ring each of them matches (R321, R322, R323, R329). -/
def abortMatches (r : Regs) : List (Instr × (List Byte → Bool)) :=
  [(.mboxAbort, fun b => onDevice r.mbin[1] b && handleOf b == r.mbin[2] ++ r.mbin[3]), (.mboxAbortDevice, onDevice r.mbin[1]),
    (.mboxAbortTarget, onTarget r.mbin[1]), (.mboxAbortQueue, onDevice r.mbin[1])]

/-- The pass of an abort command with a target that is there. -/
theorem exec_abort {s t : State} {p : Instr × (List Byte → Bool)} (hp : p ∈ abortMatches s.reg)
    (valid : btOk s.inst s.reg.mbin[1] = true) (scan : abortScan p.2 (taken s) = taken t) :
    exec p.1 s = .next (resultStaged Param.complete [] t) := by
  simp only [abortMatches, List.mem_cons, List.not_mem_nil, or_false] at hp
  rcases hp with rfl | rfl | rfl | rfl
  case inl =>
    have swapped : abortScan (fun b => handleOf b == s.reg.mbin[2] ++ s.reg.mbin[3] && onDevice s.reg.mbin[1] b) (taken s)
        = taken t := by
      simpa only [Bool.and_comm] using scan
    exact next_takeMailbox_validTarget valid (congrArg (completed []) swapped)
  all_goals exact next_takeMailbox_validTarget valid (congrArg (completed []) scan)

/-- A command that an abort matches is on the target; but for ABORT_TARGET it is on the device, and for ABORT it has the
handle (R321, R322, R323, R329). -/
theorem abortMatches_spec {r : Regs} {p : Instr × (List Byte → Bool)} (hp : p ∈ abortMatches r) {b : List Byte}
    (hb : p.2 b = true) :
    pathOf b = btBus r.mbin[1] ∧ targetOf b = btTarget r.mbin[1] ∧ (p.1 ≠ .mboxAbortTarget → lunOf b = btLun r.mbin[1])
      ∧ (p.1 = .mboxAbort → handleOf b = r.mbin[2] ++ r.mbin[3]) := by
  simp only [abortMatches, List.mem_cons, List.not_mem_nil, or_false] at hp
  rcases hp with rfl | rfl | rfl | rfl <;>
    simp only [onDevice, onTarget, Bool.and_eq_true, beq_iff_eq] at hb <;> simp [hb]

/-- The answers of a queue that begins with grants. -/
theorem getElem?_grants {n j : Nat} (h : j < n) (rest : List Bool) : (List.replicate n true ++ rest)[j]? = some true := by
  rw [List.getElem?_append_left (by rwa [List.length_replicate]), List.getElem?_replicate, if_pos h]

theorem getElem?_refusal (n : Nat) (rest : List Bool) : (List.replicate n true ++ false :: rest)[n]? = some false := by
  rw [List.getElem?_append_right (by rw [List.length_replicate]), List.length_replicate, Nat.sub_self, List.getElem?_cons_zero]

/-- Settles O29: where the scan ends is decided by the first answer that is no grant. -/
theorem abortMarksPendingSlot : Obligations.AbortMarksPendingSlot := by
  intro s dq w len pending entry command onTarget onDevice isHandle valid req resp hw p hp marks
  have marked {read calls : Nat} (scan : abortScan p.2 (taken s) = slotsMarked p.2 read (dmaAsked calls s.env.oracle) (taken s))
      {as : List Bool} (hd : s.env.oracle.dma = as ++ dq) (used : calls = as.length) : marks read := by
    have left : dmaAsked calls s.env.oracle = { s.env.oracle with dma := dq } := by
      subst used
      simp [dmaAsked, hd]
    rw [left] at scan
    exact exec_abort (t := slotsMarked p.2 read { s.env.oracle with dma := dq } s) hp valid scan
  obtain ⟨read, calls, scan, ends, granted⟩ := abortScan_eq p.2 (s := taken s) hw req resp
  refine ⟨fun hd => ?all, fun n hn hd => ?refused⟩
  case all =>
    rcases ends with ⟨rfl, used⟩ | ⟨early, -, no⟩
    · exact marked scan hd (used.trans List.length_replicate.symm)
    · have grant : s.env.oracle.dma[read]? = some true := hd ▸ getElem?_grants early dq
      exact absurd grant no
  case refused =>
    have refusal : s.env.oracle.dma[n]? = some false := hd ▸ getElem?_refusal n dq
    have upTo : read ≤ n := Nat.le_of_not_lt fun later => granted n later refusal
    rcases ends with ⟨rfl, -⟩ | ⟨-, used, no⟩
    · exact absurd hn (Nat.not_lt.2 upTo)
    · have whole : read = n := upTo.eq_or_lt.resolve_right fun earlier =>
        no (hd ▸ getElem?_grants earlier (false :: dq) : s.env.oracle.dma[read]? = some true)
      subst whole
      exact marked scan (as := List.replicate read true ++ [false]) (by simp [hd]) (by simp [used])

/-- What a slot that an abort should mark holds, and where it is. -/
theorem mem_markableSlots {m : List Byte → Bool} {n : Nat} {s : State} {k : Word}
    (inside : s.sxp.reqOut.toNat < s.sxp.reqLen.toNat)
    (hk : k ∈ markableSlots m n s) :
    k ∉ s.sxp.abortQ ∧ (∃ j, j < n ∧ k.toNat = (s.sxp.reqOut.toNat + j) % s.sxp.reqLen.toNat)
      ∧ isCommand (slotEntry s k) = true ∧ m (slotEntry s k) = true := by
  obtain ⟨slot, wanted⟩ := List.mem_filter.1 hk
  simp only [Bool.and_eq_true, Bool.not_eq_true', List.contains_eq_mem, decide_eq_false_iff_not] at wanted
  obtain ⟨⟨fresh, command⟩, hm⟩ := wanted
  obtain ⟨j, hj, rfl⟩ := List.mem_map.1 slot
  have small : (s.sxp.reqOut.toNat + j) % s.sxp.reqLen.toNat < 2 ^ 16 := (Nat.mod_lt _ (by omega)).trans s.sxp.reqLen.isLt
  exact ⟨fresh, ⟨j, List.mem_range.1 hj, by rw [BitVec.toNat_ofNat, Nat.mod_eq_of_lt small]⟩, command, hm⟩

/-- The slots that an abort should mark are different. -/
theorem nodup_markableSlots (m : List Byte → Bool) {n : Nat} {s : State} (inside : s.sxp.reqOut.toNat < s.sxp.reqLen.toNat)
    (hn : n ≤ s.sxp.reqLen.toNat) : (markableSlots m n s).Nodup := by
  have slots := nodup_slotsFrom inside hn
  rw [slotsFrom_eq_map inside] at slots
  exact slots.filter _

/-- Settles O30: the slots added are among those that the scan read and should mark. -/
theorem abortMarksOnlyMatching : Obligations.AbortMarksOnlyMatching := by
  intro s i hi valid hw len pending
  have named : i ∈ (abortMatches s.reg).map Prod.fst := hi
  obtain ⟨⟨i, m⟩, hp, rfl⟩ := List.mem_map.1 named
  by_cases active : s.sxp.reqInit = true ∧ s.sxp.respInit = true
  case neg =>
    have idle : abortScan m (taken s) = taken s := by
      have inactive : ringsActive (taken s).sxp = false := by
        simpa only [ringsActive, taken, Bool.and_eq_false_iff, not_and_or, Bool.not_eq_true] using active
      exact if_neg (ne_true_of_eq_false inactive)
    refine ⟨0, [], ?_, fun h => absurd h active, fun _ => ⟨rfl, rfl⟩, fun h => by rwa [List.append_nil], List.nodup_nil,
      fun k hk => absurd hk List.not_mem_nil⟩
    rw [List.append_nil, dmaAsked_zero]
    exact exec_abort hp valid idle
  case pos =>
    obtain ⟨req, resp⟩ := active
    have inside := reqOut_lt hw req
    obtain ⟨read, calls, scan, ends, -⟩ := abortScan_eq m (s := taken s) hw req resp
    have bounds : read ≤ pending ∧ calls ≤ pending := by
      rcases ends with ⟨all, used⟩ | ⟨early, used, -⟩
      · exact ⟨all.le, used.le⟩
      · exact ⟨early.le, used.trans_le early⟩
    have fits : read ≤ len := bounds.1.trans (Nat.mod_lt _ (by omega)).le
    refine ⟨calls, (markableSlots m read s).take (Config.abortQLen - s.sxp.abortQ.length),
      exec_abort (t := slotsMarked m read (dmaAsked calls s.env.oracle) s) hp valid scan, fun _ => bounds.2, ?inactive,
      fun room => ?room, (nodup_markableSlots m inside fits).sublist (List.take_sublist _ _), fun k hk => ?matching⟩
    case inactive =>
      rintro (off | off)
      · exact absurd req (ne_true_of_eq_false off)
      · exact absurd resp (ne_true_of_eq_false off)
    case room =>
      rw [List.length_append, List.length_take]
      omega
    case matching =>
      obtain ⟨fresh, ⟨j, hj, place⟩, command, hm⟩ := mem_markableSlots inside (List.mem_of_mem_take hk)
      obtain ⟨path, target, lun, handle⟩ := abortMatches_spec hp hm
      have type := command
      simp only [isCommand, Bool.or_eq_true, beq_iff_eq] at type
      exact ⟨fresh, ⟨j, hj.trans_le bounds.1, place⟩, type, path, target, lun, handle⟩

end Sys2Proof.Proofs
end

section
/-! The engine's passes (R400 to R443): the pass that fetches a descriptor, the descriptors that reach no target, and the
postings that the timer starts. And a state in the middle of a pass from which a step breaks the engine's invariant. -/

namespace Sys2Proof.Proofs

open Sys2Proof.Machine Sys2Proof.Safety Sys2Proof.Laws

/-! ### A pass with a queued request left behind -/

/-- In the middle of a pass, an idle engine that holds both a pending `NO_OP` and a queued direct request. -/
def commandBeforeRequest : State :=
  { State.reset with
    sxp := { Sxp.reset Inst.card with running := true, mboxCmdPending := true, directReq := some (.bios 0) } }

/-- The command comes first (R614), and its result waits for the timer while the request is still queued. -/
theorem step_commandBeforeRequest :
    step commandBeforeRequest = .next (resultStaged Param.complete [] commandBeforeRequest) := rfl

/-- Refutes O58: the engine's invariant allows a pending command beside a queued request, but a queued request only in `Idle`,
which the command's step leaves. -/
theorem not_engineInvariantKept : ¬ Obligations.EngineInvariantKept := by
  intro kept
  have start : engineInv commandBeforeRequest = true := by decide
  have queued : engineInv (resultStaged Param.complete [] commandBeforeRequest) = false := by decide
  obtain ⟨inv, -⟩ := kept _ _ start step_commandBeforeRequest
  exact absurd inv (ne_true_of_eq_false queued)

/-! ### The pass of a fetched descriptor -/

/-- Settles O6: the pass is that of the descriptor in the state that its type leads to, and so is the instruction's. -/
theorem engineRunsFetchedDescriptor : Obligations.EngineRunsFetchedDescriptor := by
  intro s t o b hs hr hc found
  have passes : resume s = runPass passFuel s := by rw [resume, ← hr]
  rw [exec_iocbInstr, passes, runPass_idle_fetch hs hr (ne_true_of_eq_false hc), found]

/-! ### Descriptors that reach no target -/

/-- The state in which a pass starts with the packet of the descriptor `b` (R402, R405). -/
def starting (x : SxpState) (o : Origin) (b : List Byte) (s : State) : State :=
  { accept x o b s with sxp := { (accept x o b s).sxp with running := true } }

theorem resume_accept (x : SxpState) (o : Origin) (b : List Byte) (s : State) :
    resume (accept x o b s) = runPass passFuel (starting x o b s) := rfl

/-- The wait after a completion does not depend on the state in which the packet was taken. -/
theorem completionWaits_starting (x : SxpState) (o : Origin) (b : List Byte) (p : Packet) (r : Response) (d : Nat)
    (s : State) : completionWaits p r d (starting x o b s) = completionWaits p r d s := by
  match p with
  | ⟨_, .bios _, _⟩ | ⟨_, .direct _, _⟩ | ⟨_, .ring _, _⟩ => rfl

/-- Settles O38: the pass of a bad packet. -/
theorem badPacketCompletion : Obligations.BadPacketCompletion := by
  intro s o b i hi _
  have accepts : exec i s = .next (resume (accept .badPacket o b s)) := by
    simp only [List.mem_cons, List.not_mem_nil, or_false] at hi
    rcases hi with rfl | rfl | rfl | rfl <;> rfl
  rw [accepts, resume_accept, passFuel, runPass_badPacket 13 (s := starting .badPacket o b s) rfl rfl,
    completionWaits_starting]
  rfl

/-- Settles O39: the pass of a marker ends at `SelectDevice`. -/
theorem markerCompletion : Obligations.MarkerCompletion := by
  intro s o b hw
  obtain ⟨-, type⟩ : _ ∧ entryType b = Param.etMarker := by simpa [Instr.wf, descriptorOf] using hw
  have selects : engineStep (starting .selectDevice o b s) =
      .go (selectMarker ⟨b, o, false⟩ (starting .selectDevice o b s)) := congrArg EngineStep.go (if_pos type)
  have accepts : exec (.iocbMarker o b) s = .next (runPass passFuel (starting .selectDevice o b s)) := rfl
  rw [accepts, passFuel, runPass_go selects, selectMarker,
    runPass_toComplete 13 (s := starting .selectDevice o b s) (p := ⟨b, o, false⟩) rfl, completionWaits_starting]
  rfl

/-- A command whose device is not selected times out (R413, R415). -/
theorem exec_command_timeout {s t : State} {o : Origin} {b : List Byte} {i : Instr}
    (hi : i ∈ [Instr.iocbCmd o b, .iocbCmd64 o b]) (hw : i.wf (decodeCtx s) = true)
    (ends : selectCommand ⟨b, o, false⟩ (starting .selectDevice o b s) =
      toState .selectionTimeout (starting .selectDevice o b (deviceSelected b t))) :
    exec i s = .next (completionWaits ⟨b, o, false⟩
      { freshResponse b with
        completionStatus := Param.csIncomplete
        statusFlags := Param.stfTimeout
        stateFlags := Param.seltoStateFlags
        time := Config.respTime 0 none } Config.selTimeoutDelay (deviceSelected b t)) := by
  obtain ⟨-, type⟩ := command_wf hi hw
  have selects : engineStep (starting .selectDevice o b s) =
      .go (starting .selectionTimeout o b (deviceSelected b t)) :=
    congrArg EngineStep.go ((if_neg type).trans ends)
  rw [exec_command_eq hi, resume_accept, passFuel, runPass_go selects,
    runPass_selectionTimeout 12 (s := starting .selectionTimeout o b (deviceSelected b t)) rfl rfl,
    completionWaits_starting]
  rfl

theorem reachable_iff (n : Inst) (b : List Byte) :
    reachable n b = true ↔ pathOf b = 0 ∧ (targetOf b).toNat < n.numTargets := by
  rw [reachable, Bool.and_eq_true, beq_iff_eq, decide_eq_true_eq]
  rfl

/-- A device that the block cannot reach is not asked for (R413). -/
theorem selectCommand_unreachable {b : List Byte} {s : State} (h : reachable s.inst b = false) (o : Origin) (skip : Bool) :
    selectCommand ⟨b, o, skip⟩ s = toState .selectionTimeout (deviceSelected b s) := by
  have outside : numBuses s.inst.buses ≤ (pathOf b).toNat ∨ s.inst.numTargets ≤ (targetOf b).toNat ∨ pathOf b ≠ 0 := by
    by_cases path : pathOf b = 0
    · refine .inr (.inl (Nat.not_lt.1 fun inRange => ?_))
      exact absurd ((reachable_iff _ _).2 ⟨path, inRange⟩) (ne_true_of_eq_false h)
    · exact .inr (.inr path)
  exact if_pos outside

/-- A device that the block can reach and that is not there (R413). -/
theorem selectCommand_absent {b : List Byte} {s : State} {pq : List Bool} (hr : reachable s.inst b = true)
    (hp : s.env.oracle.present = false :: pq) (o : Origin) (skip : Bool) :
    selectCommand ⟨b, o, skip⟩ s = toState .selectionTimeout (deviceSelected b (presentLeft pq s)) := by
  obtain ⟨path, target⟩ := (reachable_iff _ _).1 hr
  have inRange : ¬ (numBuses s.inst.buses ≤ (pathOf b).toNat ∨ s.inst.numTargets ≤ (targetOf b).toNat ∨ pathOf b ≠ 0) := by
    rw [path]
    rintro (h | h | h)
    · cases hb : s.inst.buses <;> simp [hb, numBuses] at h
    · exact Nat.not_lt.2 h target
    · exact h rfl
  have drawn : drawPresent { s with sxp := { s.sxp with
      curPath := pathOf b, curTarget := targetOf b, curLun := lunOf b } } =
    (false, deviceSelected b (presentLeft pq s)) := drawPresent_cons (s := deviceSelected b s) hp
  simp only [selectCommand, if_neg inRange, drawn]

/-- Settles O40: the selection fails before the target is asked for, or by its answer. -/
theorem selectionTimeoutCompletion : Obligations.SelectionTimeoutCompletion := by
  intro s o b i hi hw ends
  refine ⟨fun unreachable => ?outOfReach, fun q hr absent => ?absent⟩
  case outOfReach =>
    exact exec_command_timeout hi hw (selectCommand_unreachable (s := starting .selectDevice o b s) unreachable o false)
  case absent =>
    exact exec_command_timeout (t := presentLeft q s) hi hw
      (selectCommand_absent (s := starting .selectDevice o b s) hr absent o false)

/-! ### Postings that the timer starts -/

/-- The timer of a posting under the semaphore has fired: the engine comes to ask for the semaphore (R438). -/
def timerFired (rest : List HostEvent) (s : State) : State :=
  { s with
    sxp := { s.sxp with timerArmed := false, state := .acquireMboxSemaphore }
    env := { s.env with script := rest } }

/-- The fire of that timer: one step of the pass comes to `AcquireMboxSemaphore` (R438, R448). -/
theorem step_fire_mboxWait {s : State} {rest : List HostEvent} (hf : s.faulted = none) (hr : s.sxp.running = false)
    (hs : s.env.script = .fire .sxp :: rest) (ha : s.sxp.timerArmed = true) (hst : s.sxp.state = .mboxWaitTimer) :
    step s = .next (runPass 15 { timerFired rest s with sxp := { (timerFired rest s).sxp with running := true } }) := by
  rw [step_fire_sxp hf hr hs ha, resume, passFuel]
  refine congrArg _ (runPass_go ?_)
  simp only [engineStep, hst, stepMboxWait, Bool.false_eq_true, if_false]
  rfl

/-- A held semaphore suspends the pass (R442). -/
theorem runPass_acquire_held {s : State} (hs : s.sxp.state = .acquireMboxSemaphore) (hl : semaLocked s.reg.sema = true)
    (n : Nat) : runPass (n + 1) s = endPass .waitSemaphore s := by
  refine runPass_suspend ?_
  simp only [engineStep, hs, stepAcquire, hl, if_true]

/-- Settles O47: the pass after the fire is one from `AcquireMboxSemaphore`, where the semaphore decides. -/
theorem mailboxResultPosting : Obligations.MailboxResultPosting := by
  intro s rest hf hr hs ha hst u
  rw [step_fire_mboxWait hf hr hs ha hst]
  refine ⟨fun held => ?held, fun unlocked => ?free⟩
  case held =>
    rw [runPass_acquire_held (s := { timerFired rest s with sxp := { (timerFired rest s).sxp with running := true } }) rfl
      (bitSet_iff.2 held)]
    have rested : s = { s with sxp := { s.sxp with running := false } } := by rw [← hr]
    rw [rested]
    rfl
  case free =>
    have free : semaLocked s.reg.sema = false := bitSet_eq_false_of_and_eq_zero (by decide) unlocked
    refine ⟨fun hk => ?plain, fun r q hk hp initialised hm hd => ?entry⟩
    case plain => exact postsOutputs_runPass (s := timerFired rest s) rfl free rfl (by decide) hk
    case entry =>
      obtain ⟨host, -, -⟩ := (memoriesWf_iff s).1 hm
      exact postsOutputsAndEntry_runPass (s := timerFired rest s) rfl free rfl (by decide) hk hp initialised host.1 hd

/-- Settles O51: the pass after the fire finds the semaphore free. -/
theorem fastPosting : Obligations.FastPosting := by
  intro s rest hf hr hs ha hst hk unlocked
  have free : semaLocked s.reg.sema = false := bitSet_eq_false_of_and_eq_zero (by decide) unlocked
  rw [step_fire_mboxWait hf hr hs ha hst]
  exact postsOutputsAndConsumer_runPass (s := timerFired rest s) rfl free rfl (by decide) hk

end Sys2Proof.Proofs
end

section
/-! Sense data (R424): what a check condition of a ring or direct command adds to its pass, in every phase. -/

namespace Sys2Proof.Proofs

open Sys2Proof.Machine Sys2Proof.Safety Sys2Proof.Laws

/-! ### When sense data is wanted -/

/-- A check condition fetches sense data if neither the descriptor nor the target disables it (R424). -/
def senseWanted (b : List Byte) (x : Sxp) : Bool :=
  le16 b 12 &&& Param.rfDisarq == 0 &&
    (targetParam x 0 (Fin.ofNat 128 (targetOf b).toNat)).flags.getLsbD Config.tparmArqBit

/-- The disable flag is one bit: not set is clear. -/
theorem bitSet_rfDisarq (v : Word) : (!bitSet v Param.rfDisarq) = (v &&& Param.rfDisarq == 0) := by
  have bit : v &&& Param.rfDisarq = if v.getLsbD 8 then Param.rfDisarq else 0 := BitVec.and_twoPow v 8
  rw [bitSet, bit]
  cases v.getLsbD 8 <;> rfl

theorem ofNat_toNat_target (t : BitVec 7) : Fin.ofNat 128 t.toNat = targetIdx t :=
  Fin.ext (Nat.mod_eq_of_lt t.isLt)

theorem autoSenseWanted_checkCondition (b : List Byte) (x : Sxp) :
    autoSenseWanted Param.checkCondition (rflagsOf b) (targetParam x 0 (targetIdx (targetOf b))).flags = senseWanted b x := by
  rw [autoSenseWanted, bitSet_rfDisarq, senseWanted, ofNat_toNat_target, beq_self_eq_true, Bool.true_and]
  rfl

/-! ### The call for sense data -/

/-- The state after a check condition: with sense data wanted, the target is asked for it and its answer is taken (R424). -/
def senseAsked (b sense : List Byte) (sq : List (List Byte)) (wanted : Bool) (s : State) : State :=
  { s with env := { s.env with
      oracle := { s.env.oracle with sense := if wanted then sq else sense :: sq }
      calls := (if wanted then [.requestSense (targetOf b) (lunOf b)] else []) ++ s.env.calls } }

/-- The response with the sense data in it, if it is wanted (R424). -/
def senseTaken (sense : List Byte) (wanted : Bool) (r : Response) : Response := if wanted then withSense sense r else r

/-- The sense data of a command that the engine is sending: it stands in the response exactly if it is wanted (R424). -/
theorem autoSense_sending {b sense : List Byte} {sq : List (List Byte)} {s : State}
    (hq : s.env.oracle.sense = sense :: sq) (o : Origin) (r : Response) :
    autoSense ⟨b, o, false⟩ Param.checkCondition r (sending o b s) =
      (senseTaken sense (senseWanted b s.sxp) r, sending o b (senseAsked b sense sq (senseWanted b s.sxp) s)) := by
  have wanted : autoSenseWanted Param.checkCondition (rflagsOf b)
      (targetParam (sending o b s).sxp 0 (targetIdx (sending o b s).sxp.curTarget)).flags = senseWanted b s.sxp :=
    autoSenseWanted_checkCondition b s.sxp
  have drawn : drawSense (recordCall (.requestSense (sending o b s).sxp.curTarget (sending o b s).sxp.curLun)
      (sending o b s)) = _ := drawSense_cons (q := sq) hq
  simp only [autoSense, wanted]
  cases senseWanted b s.sxp
  · have kept : senseAsked b sense sq false s = s := by simp only [senseAsked, Bool.false_eq_true, if_false, ← hq]; rfl
    rw [kept]
    rfl
  · simp only [drawn, if_true, List.length_take]
    rfl

/-! ### The pass of a check condition -/

/-- What the data phase of a ring or direct command leaves to do: its fault ends the pass; else sense data is asked for if it is
wanted, and the response is complete (R420, R424); `sendCommand_eq` ties it to the model. -/
def commandEnds (p : Packet) (reply : CommandReply) (host : Nat) : Sent Nat → EngineStep
  | .fault s f => .fault s f
  | .ok moved s =>
    let r := lengthResponse p.bytes reply.status (phaseLen reply.phase) host moved
    let sensed := autoSense p reply.status { r with stateFlags := executedFlags moved } s
    .go (toComplete { sensed.1 with time := Config.respTime moved (some reply.rate) }
      (Config.elapsed moved reply.rate + Config.mboxOverhead) sensed.2)

theorem sendCommand_eq {p : Packet} {s t u : State} {segs : List Segment} {reply : CommandReply}
    (list : sgList p s = .ok segs t) (issued : issueCommand p t = (reply, u)) :
    sendCommand p s = commandEnds p reply (hostLen segs) (dataPhase reply.phase segs u) := by
  simp only [sendCommand, list, issued]
  cases dataPhase reply.phase segs u <;> rfl

/-- The time of the response, which the engine fills in last, plays no part in its sense data. -/
theorem commandEnds_moved (p : Packet) (reply : CommandReply) (host : Nat) (s : State) :
    commandEnds p reply host (.ok (min (phaseLen reply.phase) host) s) =
      let r := commandResponse p.bytes reply.status reply.rate (phaseLen reply.phase) host
      .go (toComplete (autoSense p reply.status r s).1
        (Config.elapsed (min (phaseLen reply.phase) host) reply.rate + Config.mboxOverhead)
        (autoSense p reply.status r s).2) := by
  simp only [commandEnds, autoSense, ← lengthResponse_eq]
  split <;> rfl

/-- The step of a command whose slots are read and whose target answers: the rest is that of its data phase (R420, R425). -/
theorem engineStep_sendingCommand {s : State} {o : Origin} {b : List Byte} {c : DecodeCtx} {i : Instr} {reply : CommandReply}
    {n : Nat} {segs : List Segment} {dq : List Bool} {rq : List CommandReply}
    (hi : i ∈ [Instr.iocbCmd o b, .iocbCmd64 o b]) (hw : i.wf c = true) (found : segmentsFound o b s n segs)
    (hr : s.env.oracle.reply = reply :: rq) (hd : s.env.oracle.dma = List.replicate n true ++ dq) :
    engineStep (sending o b s) = commandEnds ⟨b, o, false⟩ reply (segmentBytes segs)
      (dataPhase reply.phase segs (sending o b (commandAnswered b rq (dmaLeft dq s)))) := by
  obtain ⟨len, -⟩ := command_wf hi hw
  have list : sgList ⟨b, o, false⟩ (sending o b s) = .ok segs (sending o b (dmaLeft dq s)) :=
    sgList_found (s := sending o b s) found hd
  have command : engineStep (sending o b s) = sendCommand ⟨b, o, false⟩ (sending o b s) := by
    cases o with
    | bios a => exact absurd found id
    | ring slot | direct a => rfl
  exact command.trans (sendCommand_eq list (issueCommand_sending (s := dmaLeft dq s) len hr false))

/-- A command whose slots are read and whose target answers with a check condition: its data phase moves what it can, sense
data is asked for if it is wanted, and the completion compares the lengths (R413, R420, R423 to R425). -/
theorem exec_command_checkCondition {s t : State} {o : Origin} {b : List Byte} {i : Instr} {ph : Phase} {rate n : Nat}
    {segs : List Segment} {pq dq : List Bool} {rq : List CommandReply} {sense : List Byte} {sq : List (List Byte)}
    (hi : i ∈ [Instr.iocbCmd o b, .iocbCmd64 o b]) (hw : i.wf (decodeCtx s) = true) (hr : reachable s.inst b = true)
    (found : segmentsFound o b s n segs) (hq : t.env.oracle.sense = sense :: sq) (hp : s.env.oracle.present = true :: pq)
    (reply : s.env.oracle.reply = ⟨ph, Param.checkCondition, rate⟩ :: rq)
    (hd : s.env.oracle.dma = List.replicate n true ++ dq)
    (data : dataPhase ph segs (sending o b (commandAnswered b rq (dmaLeft dq (presentLeft pq s)))) =
      .ok (min (phaseLen ph) (segmentBytes segs)) (sending o b t)) :
    exec i s = .next (completionWaits ⟨b, o, false⟩
      (senseTaken sense (senseWanted b t.sxp)
        (commandResponse b Param.checkCondition rate (phaseLen ph) (segmentBytes segs)))
      (Config.elapsed (min (phaseLen ph) (segmentBytes segs)) rate + Config.mboxOverhead)
      (deviceSelected b (senseAsked b sense sq (senseWanted b t.sxp) t))) := by
  have sent := engineStep_sendingCommand (s := presentLeft pq s) hi hw found reply hd
  rw [data, commandEnds_moved ⟨b, o, false⟩ ⟨ph, Param.checkCondition, rate⟩] at sent
  simp only [autoSense_sending hq] at sent
  rw [exec_command_sending hi hw hr hp, runPass_go (n := 14) sent, runPass_toComplete 12 (p := ⟨b, o, false⟩) rfl,
    completionWaits_sending]

/-- Settles O44: the sense data comes after the data phase, which is that of any other status. -/
theorem automaticSense : Obligations.AutomaticSense := by
  intro s o b i phase rate n segs pq dq rq sense sq hm hi hw hr found hq hp reply target wanted host ends
  obtain ⟨hostMem, -, -⟩ := (memoriesWf_iff s).1 hm
  have checked (ph : Phase) {dq' : List Bool} (m : List Host.Cell) (handed : List OracleCall) (same : phase = ph)
      (hd : s.env.oracle.dma = List.replicate n true ++ dq')
      (data : dataPhase ph segs (sending o b (commandAnswered b rq (dmaLeft dq' (presentLeft pq s)))) =
        .ok (min (phaseLen ph) host) (sending o b { s with env := { s.env with
          hostMem := m
          oracle := { s.env.oracle with present := pq, reply := rq, dma := dq }
          calls := handed ++ commandCall b :: s.env.calls } })) : ends (phaseLen ph) m handed := by
    subst same
    refine (exec_command_checkCondition (sense := sense) (sq := sq) hi hw hr found ?sense hp reply hd data).trans ?ends
    case sense => exact hq
    case ends =>
      simp only [List.append_assoc]
      rfl
  refine ⟨fun status hd => ?status, fun bytes dataIn => ?dataIn, fun want dataOut => ?dataOut⟩
  case status => exact checked .statusOnly _ [] status hd rfl
  case dataIn =>
    intro moved hd
    rw [List.replicate_add, List.append_assoc] at hd
    have inside : (bytes.take moved).length ≤ segmentBytes segs := (List.length_take_le _ _).trans (Nat.min_le_right _ _)
    exact ⟨_, checked (.dataIn bytes) _ [] dataIn hd (dataPhase_in rfl), scatteredOver_storeSegments hostMem.1 inside⟩
  case dataOut =>
    intro moved hd
    rw [List.replicate_add, List.append_assoc] at hd
    have bytes := loadSegments_eq_map (Nat.min_le_right _ _ : moved ≤ segmentBytes segs) s.env.hostMem
    rw [← bytes]
    exact checked (.dataOut want) _ [_] dataOut hd (dataPhase_out rfl)

end Sys2Proof.Proofs
end

section
/-! BIOS requests (R426): the one segment that they have, the data port or host memory for data in, and the response. -/

namespace Sys2Proof.Proofs

open Sys2Proof.Machine Sys2Proof.Safety Sys2Proof.Laws

/-! ### The one segment -/

/-- The segments that a BIOS request uses: its first, if it counts any (R426). -/
def biosSegments (b : List Byte) (g : Segment) : List Segment := if le16 b 18 = 0 then [] else [g]

/-- The first segment of a command, in the two forms (R142, R143). -/
theorem commandSegments_head {c : DecodeCtx} {o : Origin} {b : List Byte} {i : Instr} {g : Segment}
    (hi : i = .iocbCmd o b ∧ g = segment32 b 32 ∨ i = .iocbCmd64 o b ∧ g = segment64 b 40) (hw : i.wf c = true) :
    i ∈ [Instr.iocbCmd o b, .iocbCmd64 o b] ∧ ∃ gs, commandSegments b = g :: gs := by
  rcases hi with ⟨rfl, rfl⟩ | ⟨rfl, rfl⟩ <;>
    obtain ⟨-, type⟩ : _ ∧ entryType b = _ := by simpa [Instr.wf, descriptorOf] using hw
  · exact ⟨by simp, _, if_neg fun other => absurd (type.symm.trans other) (by decide)⟩
  · exact ⟨by simp, _, if_pos type⟩

theorem take_biosSegments {b : List Byte} {g : Segment} (h : ∃ gs, commandSegments b = g :: gs) :
    (inlineSegments b).take (min (segCount b) 1) = biosSegments b g := by
  obtain ⟨gs, head⟩ := h
  rw [inlineSegments_eq, head, biosSegments, segCount]
  split
  · next uncounted => simp [uncounted]
  · next counted =>
    have pos : (le16 b 18).toNat ≠ 0 := fun h => counted (BitVec.eq_of_toNat_eq h)
    rw [Nat.min_eq_right (Nat.one_le_iff_ne_zero.2 pos)]
    rfl

section

variable {b : List Byte} {g : Segment}

theorem segmentBytes_biosSegments : segmentBytes (biosSegments b g) = if le16 b 18 = 0 then 0 else g.count := by
  rw [biosSegments]
  split
  · rfl
  · exact segmentBytes_cons g []

/-- A transfer over the one segment is one call of the DMA interface, or none for no bytes (log 21). -/
theorem piecesUsed_biosSegments {n : Nat} (h : n ≤ segmentBytes (biosSegments b g)) :
    piecesUsed (biosSegments b g) n = min n 1 := by
  rw [segmentBytes_biosSegments] at h
  rw [biosSegments]
  split at h
  · next uncounted => rw [if_pos uncounted, Nat.le_zero.1 h]; rfl
  · next counted =>
    rw [if_neg counted, piecesUsed, Nat.min_eq_right h]
    split
    · next zero => rw [zero]; rfl
    · next pos => rw [Nat.min_eq_right (Nat.one_le_iff_ne_zero.2 pos)]; rfl

theorem storeSegments_biosSegments {bytes : List Byte} (h : bytes.length ≤ segmentBytes (biosSegments b g))
    (m : List Host.Cell) : storeSegments m (biosSegments b g) bytes = writeBytes m g.base bytes := by
  rw [segmentBytes_biosSegments] at h
  rw [biosSegments]
  split at h
  · next uncounted => rw [if_pos uncounted, List.eq_nil_of_length_eq_zero (Nat.le_zero.1 h)]; rfl
  · next counted => rw [if_neg counted, storeSegments, List.take_of_length_le h]; rfl

theorem loadSegments_biosSegments {n : Nat} (h : n ≤ segmentBytes (biosSegments b g)) (m : List Host.Cell) :
    loadSegments m (biosSegments b g) n = readBytes m g.base n := by
  rw [segmentBytes_biosSegments] at h
  rw [biosSegments]
  split at h
  · next uncounted => rw [if_pos uncounted, Nat.le_zero.1 h]; rfl
  · next counted => rw [if_neg counted, loadSegments, Nat.min_eq_right h]; exact List.append_nil _

end

/-! ### The pass of a BIOS request -/

theorem lengthResponse_eq_lengthsCompared (b : List Byte) (st : Byte) (dev host : Nat) :
    lengthResponse b st dev host (min dev host) = lengthsCompared b st dev host := by
  have residual : residualOf dev host (min dev host) = if dev < host then BitVec.ofNat 32 (host - dev) else 0 := by
    rw [residualOf]
    split
    · next h => rw [Nat.min_eq_left h.le]
    · rfl
  rw [lengthResponse, residual]
  rfl

/-- What the data phase of a BIOS request leaves to do (R426); `engineStep_sendingBios` ties it to the model. -/
def biosEnds (b : List Byte) (reply : CommandReply) (host : Nat) : Sent Nat → EngineStep
  | .fault s f => .fault s f
  | .ok moved s => .go (toComplete (lengthResponse b reply.status (phaseLen reply.phase) host moved)
      (Config.elapsed moved reply.rate + Config.mboxOverhead) s)

/-- The step of a BIOS request whose target answers: the rest is that of its data phase (R426). -/
theorem engineStep_sendingBios {s : State} {c : DecodeCtx} {a : Addr} {b : List Byte} {i : Instr} {g : Segment}
    {reply : CommandReply} {rq : List CommandReply}
    (hi : i = .iocbCmd (.bios a) b ∧ g = segment32 b 32 ∨ i = .iocbCmd64 (.bios a) b ∧ g = segment64 b 40)
    (hw : i.wf c = true) (hr : s.env.oracle.reply = reply :: rq) :
    engineStep (sending (.bios a) b s) = biosEnds b reply (segmentBytes (biosSegments b g))
      (biosDataPhase reply.phase (biosSegments b g) (sending (.bios a) b (commandAnswered b rq s))) := by
  obtain ⟨command, head⟩ := commandSegments_head hi hw
  obtain ⟨len, -⟩ := command_wf command hw
  have sends : engineStep (sending (.bios a) b s) = sendBios ⟨b, .bios a, false⟩ (sending (.bios a) b s) := rfl
  rw [sends]
  simp only [sendBios, take_biosSegments head, issueCommand_sending len hr false]
  cases biosDataPhase reply.phase (biosSegments b g) (sending (.bios a) b (commandAnswered b rq s)) <;> rfl

/-- A BIOS request whose target answers: its data phase moves what it can, no sense data is asked for, and the completion
compares the lengths (R413, R423, R426). -/
theorem exec_bios {s t : State} {a : Addr} {b : List Byte} {i : Instr} {g : Segment} {ph : Phase} {st : Byte} {rate : Nat}
    {pq : List Bool} {rq : List CommandReply}
    (hi : i = .iocbCmd (.bios a) b ∧ g = segment32 b 32 ∨ i = .iocbCmd64 (.bios a) b ∧ g = segment64 b 40)
    (hw : i.wf (decodeCtx s) = true) (hr : reachable s.inst b = true) (hp : s.env.oracle.present = true :: pq)
    (reply : s.env.oracle.reply = ⟨ph, st, rate⟩ :: rq)
    (data : biosDataPhase ph (biosSegments b g) (sending (.bios a) b (commandAnswered b rq (presentLeft pq s))) =
      .ok (min (phaseLen ph) (segmentBytes (biosSegments b g))) (sending (.bios a) b t)) :
    exec i s = .next (completionWaits ⟨b, .bios a, false⟩
      (lengthsCompared b st (phaseLen ph) (segmentBytes (biosSegments b g)))
      (Config.elapsed (min (phaseLen ph) (segmentBytes (biosSegments b g))) rate + Config.mboxOverhead)
      (deviceSelected b t)) := by
  obtain ⟨command, -⟩ := commandSegments_head hi hw
  have sent := engineStep_sendingBios (s := presentLeft pq s) hi hw reply
  simp only [data, biosEnds, lengthResponse_eq_lengthsCompared] at sent
  rw [exec_command_sending command hw hr hp, runPass_go (n := 14) sent, runPass_toComplete 12 (p := ⟨b, .bios a, false⟩) rfl,
    completionWaits_sending]

/-! ### The data phase -/

section

variable {a : Addr} {b : List Byte} {segs : List Segment} {s : State}

/-- Data in by PIO: the words are staged for the port, and there is no buffer without a byte (R426). -/
theorem biosDataPhase_pio {bytes : List Byte} (pio : biosPio s = true) :
    biosDataPhase (.dataIn bytes) segs (sending (.bios a) b s) = .ok (min bytes.length (segmentBytes segs))
      (sending (.bios a) b { s with sxp := { s.sxp with
        pioBuf := if min bytes.length (segmentBytes segs) = 0 then none
          else some ⟨wordsOf (bytes.take (min bytes.length (segmentBytes segs))), 0⟩ } }) := by
  have flag : biosPio (sending (.bios a) b s) = true := pio
  have moved : hostLen segs = segmentBytes segs := rfl
  have empty : (bytes.take (min bytes.length (segmentBytes segs))).isEmpty = true
      ↔ min bytes.length (segmentBytes segs) = 0 := by
    rw [List.isEmpty_iff_length_eq_zero, List.length_take, Nat.min_eq_left (Nat.min_le_left _ _)]
  simp only [biosDataPhase, flag, if_true, moved, stagePio, empty]
  rfl

/-- Data in with the PIO flag clear stores the bytes at the one segment (R426). -/
theorem biosDataPhase_memory {g : Segment} {bytes : List Byte} {dq : List Bool} (pio : biosPio s = false)
    (hd : s.env.oracle.dma =
      List.replicate (min (min bytes.length (segmentBytes (biosSegments b g))) 1) true ++ dq) :
    biosDataPhase (.dataIn bytes) (biosSegments b g) (sending (.bios a) b s) =
      .ok (min bytes.length (segmentBytes (biosSegments b g))) (sending (.bios a) b (dmaLeft dq
        { s with env := { s.env with
          hostMem := writeBytes s.env.hostMem g.base
            (bytes.take (min bytes.length (segmentBytes (biosSegments b g)))) } })) := by
  have inside := Nat.min_le_right bytes.length (segmentBytes (biosSegments b g))
  rw [← piecesUsed_biosSegments inside] at hd
  rw [← storeSegments_biosSegments ((List.length_take_le _ _).trans inside), ← dataPhase_in hd]
  exact if_neg (ne_true_of_eq_false pio)

/-- Data out takes the bytes of the one segment, whatever the flag is (R426). -/
theorem biosDataPhase_out {g : Segment} {want : Nat} {dq : List Bool}
    (hd : s.env.oracle.dma = List.replicate (min (min want (segmentBytes (biosSegments b g))) 1) true ++ dq) :
    biosDataPhase (.dataOut want) (biosSegments b g) (sending (.bios a) b s) =
      .ok (min want (segmentBytes (biosSegments b g))) (sending (.bios a) b (dmaLeft dq
        (recordCall (.dataOut (targetOf b)
          (readBytes s.env.hostMem g.base (min want (segmentBytes (biosSegments b g))))) s))) := by
  have inside := Nat.min_le_right want (segmentBytes (biosSegments b g))
  rw [← piecesUsed_biosSegments inside] at hd
  rw [← loadSegments_biosSegments inside]
  exact dataPhase_out hd

end

/-- A count is a field of 32 bits (R147). -/
theorem count_le {o : Origin} {b : List Byte} {i : Instr} {g : Segment}
    (hi : i = .iocbCmd o b ∧ g = segment32 b 32 ∨ i = .iocbCmd64 o b ∧ g = segment64 b 40) : g.count ≤ 2 ^ 64 := by
  have small (v : DWord) : v.toNat ≤ 2 ^ 64 := v.isLt.le.trans (by decide)
  rcases hi with ⟨-, rfl⟩ | ⟨-, rfl⟩ <;> exact small _

/-- Settles O45: the phases of a BIOS request, over its one segment. -/
theorem biosPioStaging : Obligations.BiosPioStaging := by
  intro s a b i phase st rate pq rq g hi hw hr hp reply host pio asked ends
  have bytesOf : segmentBytes (biosSegments b g) = host := segmentBytes_biosSegments
  have ended (ph : Phase) (t : State) (same : phase = ph)
      (data : biosDataPhase ph (biosSegments b g) (sending (.bios a) b (commandAnswered b rq (presentLeft pq s))) =
        .ok (min (phaseLen ph) (segmentBytes (biosSegments b g))) (sending (.bios a) b t)) : ends (phaseLen ph) t := by
    subst same
    have pass := exec_bios hi hw hr hp reply data
    rw [bytesOf] at pass
    exact pass
  refine ⟨fun bytes dataIn flag => ?pio, fun bytes dq dataIn flag hm => ?memory, fun want dq dataOut => ?dataOut,
    fun status => ended .statusOnly _ status rfl⟩
  case pio =>
    intro moved
    refine ended (.dataIn bytes) _ dataIn ((biosDataPhase_pio (s := commandAnswered b rq (presentLeft pq s)) flag).trans ?_)
    rw [bytesOf]
    rfl
  case memory =>
    intro moved hd
    obtain ⟨hostMem, -, -⟩ := (memoriesWf_iff s).1 hm
    refine ⟨writeBytes s.env.hostMem g.base (bytes.take moved), ended (.dataIn bytes) _ dataIn ?data,
      storedAt_writeBytes hostMem.1 _ ?length⟩
    case data =>
      refine (biosDataPhase_memory (s := commandAnswered b rq (presentLeft pq s)) (dq := dq) flag
        (by rw [bytesOf]; exact hd)).trans ?_
      rw [bytesOf]
      rfl
    case length =>
      have fits : host ≤ g.count := by
        simp only [host]
        split
        · exact Nat.zero_le _
        · exact le_rfl
      exact (List.length_take_le _ _).trans ((Nat.min_le_right _ _).trans (fits.trans (count_le hi)))
  case dataOut =>
    intro moved hd t
    refine ended (.dataOut want) _ dataOut ((biosDataPhase_out (s := commandAnswered b rq (presentLeft pq s)) (dq := dq)
      (by rw [bytesOf]; exact hd)).trans ?_)
    rw [bytesOf]
    rfl

end Sys2Proof.Proofs
end

section
/-! The internal faults (R425, R447, R603): each place where the engine asks the DMA interface and is refused, and the bad
continuation. -/

namespace Sys2Proof.Proofs

open Sys2Proof.Machine Sys2Proof.Safety Sys2Proof.Laws

/-- A recorded fault stops every step (R603). -/
theorem step_faulted {s : State} {f : InternalFault} (h : s.faulted = some f) : step s = .fault (.internal f) := by
  rw [step, h]

/-- A pass that ends with a fault is the last (R447, R603). -/
theorem stopsWith_raiseFault {f : InternalFault} {p : State → Prop} {t : State} (h : p (raiseFault f t)) :
    stopsWith f p (.next (raiseFault f t)) :=
  ⟨_, rfl, rfl, rfl, step_faulted rfl, h⟩

/-! ### A command on its way

What the states of a pass in `SendCdb` share with the state before it. -/

@[simp] theorem dmaLeft_reg (dq : List Bool) (s : State) : (dmaLeft dq s).reg = s.reg := rfl
@[simp] theorem dmaLeft_env (dq : List Bool) (s : State) :
    (dmaLeft dq s).env = { s.env with oracle := { s.env.oracle with dma := dq } } := rfl
@[simp] theorem presentLeft_reg (pq : List Bool) (s : State) : (presentLeft pq s).reg = s.reg := rfl
@[simp] theorem presentLeft_env (pq : List Bool) (s : State) :
    (presentLeft pq s).env = { s.env with oracle := { s.env.oracle with present := pq } } := rfl
@[simp] theorem sending_reg (o : Origin) (b : List Byte) (s : State) : (sending o b s).reg = s.reg := rfl
@[simp] theorem sending_env (o : Origin) (b : List Byte) (s : State) : (sending o b s).env = s.env := rfl
@[simp] theorem commandAnswered_reg (b : List Byte) (rq : List CommandReply) (s : State) :
    (commandAnswered b rq s).reg = s.reg := rfl
@[simp] theorem commandAnswered_env (b : List Byte) (rq : List CommandReply) (s : State) :
    (commandAnswered b rq s).env = { s.env with
      oracle := { s.env.oracle with reply := rq }, calls := commandCall b :: s.env.calls } := rfl

/-! ### The fetch of a direct request -/

theorem fetchDirect_refused {s : State} {q : List Bool} (hd : s.env.oracle.dma = false :: q) (d : DirectReq) :
    fetchDirect d s = .dmaError (dmaLeft q { s with sxp := { s.sxp with directReq := none } }) := by
  have read := memRead_refused (s := { s with sxp := { s.sxp with directReq := none } }) hd (directAddr d)
    (by decide : Param.iocbSize ≠ 0)
  cases d <;> simp only [fetchDirect, directAddr] at read ⊢ <;> rw [read] <;> rfl

/-- A command that queues a direct request whose descriptor the DMA interface refuses (R402, R447). -/
theorem stopsWith_queueDirect {body : State → MboxAnswer} {d : DirectReq} {s : State} {q : List Bool}
    (hb : body (taken s) = queueDirect d (taken s)) (hs : s.sxp.state = .idle) (hd : s.env.oracle.dma = false :: q) :
    stopsWith .dmaFailure (unchangedOutside s) (.next (resume (takeMailbox body s))) := by
  have passes : resume (takeMailbox body s) = runPass passFuel (directQueued d s) := resume_takeMailbox_pending hb
  have fetched := runPass_idle_fetch (s := directQueued d s) hs rfl Bool.false_ne_true
  have found : fetch (directQueued d s) = fetchDirect d (directQueued d s) := rfl
  rw [found, fetchDirect_refused (s := directQueued d s) hd] at fetched
  rw [passes, fetched]
  exact stopsWith_raiseFault ⟨rfl, rfl, rfl⟩

/-! ### The fetch of the head slot -/

/-- A head slot whose read is refused leaves the abort queue if it stands there (R404, R405). -/
theorem fetch_refused {s : State} {q : List Bool} (hq : s.sxp.directReq = none) (hb : ringBlocked s = none)
    (hd : s.env.oracle.dma = false :: q) :
    fetch s = .dmaError (dmaLeft q { s with sxp := { s.sxp with abortQ := s.sxp.abortQ.erase s.sxp.reqOut } }) := by
  rw [fetch_unblocked hq hb]
  by_cases aborted : s.sxp.reqOut ∈ s.sxp.abortQ
  · have read := memRead_refused (s := { s with sxp := { s.sxp with abortQ := s.sxp.abortQ.erase s.sxp.reqOut } }) hd
      (slotAddr s.sxp.reqBase s.sxp.reqOut) (by decide : Param.iocbSize ≠ 0)
    simp only [fetchHead, if_pos aborted, read]
    rfl
  · rw [List.erase_of_not_mem aborted]
    simp only [fetchHead, if_neg aborted, memRead_refused hd _ (by decide : Param.iocbSize ≠ 0)]
    rfl

/-- A pass whose only work is a head slot that the DMA interface refuses (R405, R447). -/
theorem stopsWith_goesOn {p : State} {out : Result} {q : List Bool} (h : goesOn p out) (hc : p.sxp.mboxCmdPending = false)
    (hq : p.sxp.directReq = none) (hb : ringBlocked p = none) (hd : p.env.oracle.dma = false :: q) :
    stopsWith .dmaFailure (fun t => unchangedOutside p t ∧ t.sxp.reqOut = p.sxp.reqOut
      ∧ t.sxp.abortQ = p.sxp.abortQ.erase p.sxp.reqOut) out := by
  obtain ⟨-, outcome⟩ := h
  have found := fetch_refused (s := { p with sxp := { p.sxp with running := true } }) hq hb hd
  rw [if_neg (ne_true_of_eq_false hc), found] at outcome
  rw [outcome]
  exact stopsWith_raiseFault ⟨⟨rfl, rfl, rfl⟩, rfl, rfl⟩

/-! ### A continuation slot -/

theorem sgList_ring (slot : Word) (b : List Byte) (skip : Bool) (s : State) :
    sgList ⟨b, .ring slot, skip⟩ s = contWalk (le16 b 18).toNat ((byteAt b 1).toNat - 1 - 0)
      (continuationSlot slot s.sxp.reqLen 0) ((segmentsAfter slot b s 0).take (le16 b 18).toNat) s := by
  simp only [segmentsAfter, List.range_zero, List.flatMap_nil, List.append_nil, List.take_take, Nat.min_self]
  rfl

/-- The walk that comes to its slot `j`, from its slot `k` on, with `m` of those before it still to read (R425). -/
theorem contWalk_reaches {slot : Word} {b : List Byte} {s : State} {j : Nat} (reach : walkReaches slot b s j)
    (dq : List Bool) (m : Nat) : ∀ k, k + m = j →
      contWalk (le16 b 18).toNat ((byteAt b 1).toNat - 1 - k) (continuationSlot slot s.sxp.reqLen k)
        ((segmentsAfter slot b s k).take (le16 b 18).toNat) (dmaLeft (List.replicate m true ++ dq) s) =
      contWalk (le16 b 18).toNat ((byteAt b 1).toNat - 1 - j) (continuationSlot slot s.sxp.reqLen j)
        ((segmentsAfter slot b s j).take (le16 b 18).toNat) (dmaLeft dq s) := by
  obtain ⟨covered, few, cont⟩ := reach
  induction m with
  | zero => rintro k rfl; rfl
  | succ m ih =>
    intro k hk
    have slots : (byteAt b 1).toNat - 1 - k = (byteAt b 1).toNat - 1 - (k + 1) + 1 := by omega
    rw [slots]
    exact (contWalk_continuation (few k (by omega)) (cont k (by omega)) _ _).trans (ih (k + 1) (by omega))

section

variable {slot : Word} {b : List Byte} {s : State} {j : Nat} {dq : List Bool} (reach : walkReaches slot b s j)

include reach

/-- The list of a command whose walk comes to its slot `j` is what the walk does there. -/
theorem sgList_reaches (hd : s.env.oracle.dma = List.replicate j true ++ dq) (skip : Bool) :
    ∃ left, sgList ⟨b, .ring slot, skip⟩ s =
      contWalk (le16 b 18).toNat (left + 1) (continuationSlot slot s.sxp.reqLen j)
        ((segmentsAfter slot b s j).take (le16 b 18).toNat) (dmaLeft dq s) := by
  have walk := contWalk_reaches reach dq j 0 (Nat.zero_add j)
  rw [dmaLeft_self hd, ← sgList_ring slot b skip] at walk
  obtain ⟨covered, -, -⟩ := reach
  refine ⟨(byteAt b 1).toNat - 1 - (j + 1), walk.trans ?_⟩
  congr 1
  omega

theorem length_take_segmentsAfter_lt : ((segmentsAfter slot b s j).take (le16 b 18).toNat).length < (le16 b 18).toNat := by
  obtain ⟨-, few, -⟩ := reach
  exact (List.length_take_le' _ _).trans_lt (few j le_rfl)

/-- The walk comes to a slot of no continuation type (R425). -/
theorem sgList_bad (hd : s.env.oracle.dma = List.replicate (j + 1) true ++ dq)
    (hb : isContinuation (continuationBytes slot j s) = false) (skip : Bool) :
    sgList ⟨b, .ring slot, skip⟩ s = .fault (dmaLeft dq s) .badContinuation := by
  rw [List.replicate_succ', List.append_assoc] at hd
  obtain ⟨left, walk⟩ := sgList_reaches reach hd skip
  exact walk.trans (contWalk_bad (length_take_segmentsAfter_lt reach) rfl (contSegments_none hb))

/-- The walk comes to a slot whose read is refused (R425, R447). -/
theorem sgList_refused (hd : s.env.oracle.dma = List.replicate j true ++ false :: dq) (skip : Bool) :
    sgList ⟨b, .ring slot, skip⟩ s = .fault (dmaLeft dq s) .dmaFailure := by
  obtain ⟨left, walk⟩ := sgList_reaches reach hd skip
  exact walk.trans (contWalk_refused (length_take_segmentsAfter_lt reach) rfl)

end

/-- A ring command whose walk faults ends the pass before its call (R425, R447). -/
theorem stopsWith_sgList {s : State} {slot : Word} {b : List Byte} {i : Instr} {pq dq : List Bool} {f : InternalFault}
    (hi : i ∈ [Instr.iocbCmd (.ring slot) b, .iocbCmd64 (.ring slot) b]) (hw : i.wf (decodeCtx s) = true)
    (hr : reachable s.inst b = true) (hp : s.env.oracle.present = true :: pq)
    (list : sgList ⟨b, .ring slot, false⟩ (sending (.ring slot) b (presentLeft pq s)) =
      .fault (dmaLeft dq (sending (.ring slot) b (presentLeft pq s))) f) :
    stopsWith f (unchangedOutside s) (exec i s) := by
  have faults : engineStep (sending (.ring slot) b (presentLeft pq s)) =
      .fault (dmaLeft dq (sending (.ring slot) b (presentLeft pq s))) f := by
    have sends : engineStep (sending (.ring slot) b (presentLeft pq s)) =
      sendCommand ⟨b, .ring slot, false⟩ (sending (.ring slot) b (presentLeft pq s)) := rfl
    rw [sends, sendCommand, list]
  rw [exec_command_sending hi hw hr hp, runPass_fault (n := 14) faults]
  exact stopsWith_raiseFault ⟨rfl, rfl, rfl⟩

/-! ### A segment of a command -/

/-- What a transfer has moved before a call is no more than it moves. -/
theorem bytesInPieces_le {segs : List Segment} {n k : Nat} (h : k < piecesUsed segs n) : bytesInPieces segs k ≤ n := by
  induction segs generalizing n k with
  | nil => exact Nat.zero_le n
  | cons g gs ih =>
    rw [piecesUsed] at h
    rw [bytesInPieces]
    split
    · next empty => simp only [empty, Nat.zero_min, if_true, Nat.zero_add, Nat.sub_zero] at h; exact ih h
    split
    · exact Nat.zero_le n
    next later =>
    have rest : k - 1 < piecesUsed gs (n - g.count) := by split at h <;> omega
    have left : n - g.count ≠ 0 := fun zero => by rw [zero, piecesUsed_zero] at rest; exact Nat.not_lt_zero _ rest
    have := ih rest
    omega

/-- Before its first call a transfer has moved nothing. -/
theorem bytesInPieces_zero (segs : List Segment) : bytesInPieces segs 0 = 0 := by
  induction segs with
  | nil => rfl
  | cons g gs ih => simp only [bytesInPieces, ih, if_true, ite_self]

section

variable {o : Origin} {b : List Byte} {segs : List Segment} {s : State} {k : Nat} {dq : List Bool}
  (hd : s.env.oracle.dma = List.replicate k true ++ false :: dq)

include hd

/-- Data in whose call number `k` is refused: what comes before is stored, and no more (R420, R447). -/
theorem dataPhase_in_refused {bytes : List Byte} (hk : k < piecesUsed segs (min bytes.length (segmentBytes segs))) :
    dataPhase (.dataIn bytes) segs (sending o b s) = .fault (sending o b (dmaLeft dq { s with env := { s.env with
      hostMem := storeSegments s.env.hostMem segs (bytes.take (bytesInPieces segs k)) } })) .dmaFailure := by
  have pieces : (bytes.take (min bytes.length (segmentBytes segs))).length = min bytes.length (segmentBytes segs) :=
    List.length_take_of_le (Nat.min_le_left _ _)
  have stored := scatter_refused (dq := dq) segs (bytes.take (min bytes.length (segmentBytes segs))) k (sending o b s)
    (by rwa [pieces]) hd
  rw [List.take_take, Nat.min_eq_left (bytesInPieces_le hk)] at stored
  have moved : hostLen segs = segmentBytes segs := rfl
  simp only [dataPhase, phaseLen, moved, stored]
  rfl

/-- Data out whose call number `k` is refused: the target gets nothing (R420, R447). -/
theorem dataPhase_out_refused {want : Nat} (hk : k < piecesUsed segs (min want (segmentBytes segs))) :
    dataPhase (.dataOut want) segs (sending o b s) = .fault (sending o b (dmaLeft dq s)) .dmaFailure := by
  have loaded := gather_refused (dq := dq) segs (min want (segmentBytes segs)) k (sending o b s) hk hd
  have moved : hostLen segs = segmentBytes segs := rfl
  simp only [dataPhase, phaseLen, moved, loaded]
  rfl

end

/-- A ring or direct command whose data phase faults ends the pass after its call (R447). -/
theorem exec_command_faulted {s t : State} {o : Origin} {b : List Byte} {i : Instr} {ph : Phase} {st : Byte} {rate n : Nat}
    {segs : List Segment} {pq dq : List Bool} {rq : List CommandReply} {f : InternalFault}
    (hi : i ∈ [Instr.iocbCmd o b, .iocbCmd64 o b]) (hw : i.wf (decodeCtx s) = true) (hr : reachable s.inst b = true)
    (found : segmentsFound o b s n segs) (hp : s.env.oracle.present = true :: pq)
    (reply : s.env.oracle.reply = ⟨ph, st, rate⟩ :: rq) (hd : s.env.oracle.dma = List.replicate n true ++ dq)
    (data : dataPhase ph segs (sending o b (commandAnswered b rq (dmaLeft dq (presentLeft pq s)))) = .fault t f) :
    exec i s = .next (raiseFault f t) := by
  have sent := engineStep_sendingCommand (s := presentLeft pq s) hi hw found reply hd
  simp only [data, commandEnds] at sent
  rw [exec_command_sending hi hw hr hp, runPass_fault (n := 14) sent]

/-- A BIOS request whose data phase faults ends the pass after its call (R447). -/
theorem exec_bios_faulted {s t : State} {a : Addr} {b : List Byte} {i : Instr} {g : Segment} {ph : Phase} {st : Byte}
    {rate : Nat} {pq : List Bool} {rq : List CommandReply} {f : InternalFault}
    (hi : i = .iocbCmd (.bios a) b ∧ g = segment32 b 32 ∨ i = .iocbCmd64 (.bios a) b ∧ g = segment64 b 40)
    (hw : i.wf (decodeCtx s) = true) (hr : reachable s.inst b = true) (hp : s.env.oracle.present = true :: pq)
    (reply : s.env.oracle.reply = ⟨ph, st, rate⟩ :: rq)
    (data : biosDataPhase ph (biosSegments b g) (sending (.bios a) b (commandAnswered b rq (presentLeft pq s))) =
      .fault t f) : exec i s = .next (raiseFault f t) := by
  obtain ⟨command, -⟩ := commandSegments_head hi hw
  have sent := engineStep_sendingBios (s := presentLeft pq s) hi hw reply
  simp only [data, biosEnds] at sent
  rw [exec_command_sending command hw hr hp, runPass_fault (n := 14) sent]

/-! ### The writing of a response -/

theorem writeResp_refused {s : State} {q : List Bool} (hd : s.env.oracle.dma = false :: q) (r : Response) :
    writeResp r s = .error (dmaLeft q s) := by
  have hne : responseBytes r ≠ [] := List.ne_nil_of_length_pos (by simp)
  rw [writeResp, memWrite_refused hd _ hne]
  rfl

/-- A completion with a response entry that the DMA interface refuses, silent, of the ring or direct (R440, R443, R447). -/
theorem engineStep_entry_refused {s : State} {r : Response} {q : List Bool} (ha : s.sxp.timerArmed = false)
    (hs : s.sxp.state = .waitTimer ∨ s.sxp.state = .setRiscInterrupt ∧ s.sxp.postKind = some .ring
      ∨ s.sxp.state = .setRiscInterrupt ∧ s.sxp.postKind = some .mboxAndRing ∧ s.sxp.respInit = true)
    (hp : s.sxp.pktResp = some r) (hd : s.env.oracle.dma = false :: q) :
    engineStep s = .fault (dmaLeft q s) .dmaFailure := by
  rcases hs with silent | ⟨ring, hk⟩ | ⟨direct, hk, hi⟩
  · simp only [engineStep, silent, stepWaitTimer, ha, hp, writeResp_refused hd, Bool.false_eq_true, if_false]
  · simp only [engineStep, ring, stepSetInterrupt, ha, hk, postByKind, hp, writeResp_refused hd, Bool.false_eq_true, if_false]
  · simp only [engineStep, direct, stepSetInterrupt, ha, hk, postByKind, hp, hi, writeResp_refused hd, Bool.false_eq_true,
      if_false, if_true]

/-- What a refused response entry leaves of a posting under the semaphore: no entry, no interrupt, but the outputs and the lock
(R441, R442). -/
def postedAlone (s t : State) : Prop :=
  (t.env.hostMem = s.env.hostMem ∧ t.sxp.respIn = s.sxp.respIn ∧ t.reg.isr = s.reg.isr)
    ∧ outputsPosted s t.reg.mbout ∧ t.reg.sema &&& Param.semaLock = Param.semaLock

theorem or_and_right_eq {w : Nat} (a m : BitVec w) : (a ||| m) &&& m = m := by
  ext i
  simp +contextual

/-- A direct completion that finds the semaphore free and whose entry the DMA interface refuses: the outputs are posted, and no
more (R441, R442, R447). -/
theorem stopsWith_entry_refused {s : State} {r : Response} {q : List Bool} (hs : s.sxp.state = .acquireMboxSemaphore)
    (hl : semaLocked s.reg.sema = false) (ha : s.sxp.timerArmed = false) (hk : s.sxp.postKind = some .mboxAndRing)
    (hi : s.sxp.respInit = true) (hp : s.sxp.pktResp = some r) (hd : s.env.oracle.dma = false :: q) (n : Nat) :
    stopsWith .dmaFailure (postedAlone s) (.next (runPass (n + 2) { s with sxp := { s.sxp with running := true } })) := by
  have acquires : engineStep { s with sxp := { s.sxp with running := true } } =
      .go (outputsCopied (postedOut s.sxp.mboutMask s.sxp.stageOut s.reg.mbout) s) := by
    simp only [engineStep, hs, stepAcquire, hl, Bool.false_eq_true, if_false]
    rfl
  have faults := engineStep_entry_refused
    (s := outputsCopied (postedOut s.sxp.mboutMask s.sxp.stageOut s.reg.mbout) s) ha (.inr (.inr ⟨rfl, hk, hi⟩)) hp hd
  rw [runPass_go acquires, runPass_fault faults]
  exact stopsWith_raiseFault ⟨⟨rfl, rfl, rfl⟩, outputsPosted_postedOut s, or_and_right_eq _ _⟩

/-! ### The statement -/

/-- Settles O46: each refused call is the fault of one step of the pass, which the pass ends with. -/
theorem engineFaultsStop : Obligations.EngineFaultsStop := by
  refine ⟨fun s f => step_faulted, ?direct, ?head, ?continuation, ?segment, ?bios, ?response⟩
  case direct =>
    intro s i q hs hd hi
    rcases hi with rfl | rfl | ⟨rfl, length⟩
    · exact stopsWith_queueDirect (body := bodyExecuteIocb) (d := .exec _ false) rfl hs hd
    · exact stopsWith_queueDirect (body := bodyExecuteBiosIocb) (d := .bios _) rfl hs hd
    · exact stopsWith_queueDirect (body := bodyExecuteIocbA64) (d := .exec _ true) (if_neg (not_not.2 length)) hs hd
  case head =>
    intro s u v i q hs hr hc hq hi unblocked hd
    obtain ⟨m, rfl, goes⟩ := exec_writeCursor hs hr hi
    exact stopsWith_goesOn goes hc hq unblocked hd
  case continuation =>
    intro s slot b i j pq dq hi hw hr reach hp
    refine ⟨fun hd bad => stopsWith_sgList (dq := dq) hi hw hr hp ?_, fun hd => stopsWith_sgList (dq := dq) hi hw hr hp ?_⟩
    · exact sgList_bad (s := sending (.ring slot) b (presentLeft pq s)) reach hd bad false
    · exact sgList_refused (s := sending (.ring slot) b (presentLeft pq s)) reach hd false
  case segment =>
    intro s o b i phase st rate n k segs pq dq rq hi hw hr found hp reply hd
    rw [List.replicate_add, List.append_assoc] at hd
    refine ⟨fun bytes dataIn hm hk => ?_, fun want dataOut hk => ?_⟩
    · subst dataIn
      obtain ⟨hostMem, -, -⟩ := (memoriesWf_iff s).1 hm
      have inside : (bytes.take (bytesInPieces segs k)).length ≤ segmentBytes segs :=
        (List.length_take_le _ _).trans ((bytesInPieces_le hk).trans (Nat.min_le_right _ _))
      rw [exec_command_faulted hi hw hr found hp reply hd (dataPhase_in_refused rfl hk)]
      exact stopsWith_raiseFault ⟨by simp, by simp, by simpa using scatteredOver_storeSegments hostMem.1 inside⟩
    · subst dataOut
      rw [exec_command_faulted hi hw hr found hp reply hd (dataPhase_out_refused rfl hk)]
      exact stopsWith_raiseFault (by simp)
  case bios =>
    intro s a b i phase st rate pq dq rq g hi hw hr counted pos hp reply hd moves
    have hostBytes : segmentBytes (biosSegments b g) = g.count := segmentBytes_biosSegments.trans (if_neg counted)
    have called (n : Nat) (hn : 0 < n) :
        0 < piecesUsed (biosSegments b g) (min n (segmentBytes (biosSegments b g))) := by
      rw [piecesUsed_biosSegments (Nat.min_le_right _ _), hostBytes]
      omega
    rcases moves with ⟨bytes, rfl, nonempty, flag⟩ | ⟨want, rfl, positive⟩
    · have refused := dataPhase_in_refused (o := .bios a) (b := b) (s := commandAnswered b rq (presentLeft pq s))
        (k := 0) hd (called _ (List.length_pos_of_ne_nil nonempty))
      rw [bytesInPieces_zero, List.take_zero, storeSegments_nil] at refused
      rw [exec_bios_faulted hi hw hr hp reply ((if_neg (ne_true_of_eq_false flag)).trans refused)]
      exact stopsWith_raiseFault (by simp)
    · have refused := dataPhase_out_refused (o := .bios a) (b := b) (s := commandAnswered b rq (presentLeft pq s))
        (k := 0) hd (called want positive)
      rw [exec_bios_faulted hi hw hr hp reply refused]
      exact stopsWith_raiseFault (by simp)
  case response =>
    intro s r q hf hr hp hd unwritten posted
    refine ⟨fun rest hs ha => ⟨fun waits => ?entry, fun hst hk hi unlocked => ?timer⟩, fun v unlocked ha hst hk hi => ?release⟩
    case entry =>
      have faults := engineStep_entry_refused (s := { s with
        sxp := { s.sxp with timerArmed := false, running := true }, env := { s.env with script := rest } }) rfl
        (waits.imp_right .inl) hp hd
      rw [step_fire_sxp hf hr hs ha, resume, passFuel, runPass_fault faults]
      exact stopsWith_raiseFault ⟨⟨rfl, rfl, rfl⟩, rfl⟩
    case timer =>
      have free : semaLocked s.reg.sema = false := bitSet_eq_false_of_and_eq_zero (by decide) unlocked
      rw [step_fire_mboxWait hf hr hs ha hst]
      exact stopsWith_entry_refused (s := timerFired rest s) rfl free rfl hk hi hp hd 13
    case release =>
      have free : semaLocked (semaWritten s.reg.sema v) = false := bitSet_eq_false_of_and_eq_zero (by decide) unlocked
      rw [exec_writeSema_releases hst hr free]
      exact stopsWith_entry_refused (s := storeSema v s) hst free ha hk hi hp hd 14

end Sys2Proof.Proofs
end

section
/-! The flash unit's consistency (R67, R68, R518, R519): each of its operations keeps it, so each of its moves does, and
with them every step. -/

namespace Sys2Proof.Proofs

open Sys2Proof.Machine Sys2Proof.Safety Sys2Proof.Laws

/-! ### The invariant by its parts -/

/-- The invariant of the flash unit, part by part. -/
structure FlashConsistent (f : Flash) : Prop where
  cycle : f.cycle = 0 ∨ f.mode = .readArray ∨ f.mode = .autoselect
  done : f.doneArmed = flashBusy f.mode
  accept : f.acceptArmed = (f.mode == .eraseAccept)
  pending : f.mode = .eraseAccept ∨ f.pending = .replicate 8 false
  status : flashStatusWf f.mode f.status = true

theorem flashWf_iff (f : Flash) : flashWf f = true ↔ FlashConsistent f := by
  simp only [flashWf, Bool.and_eq_true, Bool.or_eq_true, beq_iff_eq, and_assoc, or_assoc]
  exact ⟨fun ⟨cycle, done, accept, pending, status⟩ => ⟨cycle, done, accept, pending, status⟩,
    fun ⟨cycle, done, accept, pending, status⟩ => ⟨cycle, done, accept, pending, status⟩⟩

/-- Nothing is under way in the flash unit: no timer runs, no block is queued and the status is clear. -/
structure FlashQuiet (f : Flash) : Prop where
  done : f.doneArmed = false
  accept : f.acceptArmed = false
  pending : f.pending = .replicate 8 false
  status : f.status = 0

/-- The flash is in a mode that takes commands or program data (R502, R512). -/
def takesBytes (m : FlMode) : Prop := m = .readArray ∨ m = .autoselect ∨ m = .programSetup

/-- In those modes nothing is under way. -/
theorem FlashConsistent.quiet {f : Flash} (h : FlashConsistent f) (hm : takesBytes f.mode) : FlashQuiet f := by
  obtain ⟨-, done, accept, pending, status⟩ := h
  rcases hm with hm | hm | hm <;> rw [hm] at done accept status <;>
    exact ⟨done, accept, by simpa [hm] using pending, by simpa [flashStatusWf] using status⟩

/-! ### What the operations keep -/

namespace FlashQuiet

variable {n : Inst} {z : FlashSize} {f : Flash} (q : FlashQuiet f)

include q

theorem flMode_consistent {m : FlMode} (hm : takesBytes m) : FlashConsistent (flMode m f) := by
  obtain ⟨done, accept, pending, status⟩ := q
  rcases hm with rfl | rfl | rfl <;> exact ⟨.inl rfl, done, accept, .inr pending, by simp [flashStatusWf, flMode, status]⟩

theorem flCycle_consistent (hm : f.mode = .readArray ∨ f.mode = .autoselect) (c : Fin 6) :
    FlashConsistent (flCycle c f) := by
  obtain ⟨done, accept, pending, status⟩ := q
  refine ⟨.inr hm, ?_, ?_, .inr pending, ?_⟩ <;> rcases hm with hm | hm <;>
    simp [flCycle, hm, done, accept, status, flashBusy, flashStatusWf]

theorem flProgram_consistent (fa : FlashAddr) (d : Byte) : FlashConsistent (flProgram z fa d f) := by
  obtain ⟨done, accept, pending, status⟩ := q
  unfold flProgram
  split
  · exact ⟨.inl rfl, rfl, accept, .inr pending, by simp [flashStatusWf, flMode, armDone, status]⟩
  · split
    · exact ⟨.inl rfl, done, accept, .inr pending, by simp [flashStatusWf, flMode, flStatusError, status]; decide⟩
    · exact ⟨.inl rfl, rfl, accept, .inr pending, by simp [flashStatusWf, flMode, armDone, status]⟩

theorem flChipErase_consistent : FlashConsistent (flChipErase z f) :=
  ⟨.inl rfl, rfl, q.accept, .inr q.pending, by simp [flashStatusWf, flChipErase, flMode, armDone, q.status]⟩

theorem flQueueFirst_consistent (fa : FlashAddr) : FlashConsistent (flQueueFirst z fa f) :=
  ⟨.inl rfl, q.done, rfl, .inl rfl, by simp [flashStatusWf, flQueueFirst, flMode, armAccept, q.status]⟩

theorem flCommand_consistent (hm : f.mode = .readArray ∨ f.mode = .autoselect) (d : Byte) :
    FlashConsistent (flCommand d f) := by
  unfold flCommand
  split
  · exact q.flMode_consistent (.inr (.inl rfl))
  · split
    · exact q.flMode_consistent (.inr (.inr rfl))
    · split <;> exact q.flCycle_consistent hm _

theorem flConfirm_consistent (hm : f.mode = .readArray ∨ f.mode = .autoselect) (fa : FlashAddr) (d : Byte) :
    FlashConsistent (flConfirm n fa d f) := by
  unfold flConfirm
  split
  · exact q.flChipErase_consistent
  · split
    · exact q.flQueueFirst_consistent fa
    · exact q.flCycle_consistent hm 0

theorem flSequence_consistent (hm : f.mode = .readArray ∨ f.mode = .autoselect) (fa : FlashAddr) (d : Byte) :
    FlashConsistent (flSequence n fa d f) := by
  have moves (c : Fin 6) : FlashConsistent (flCycle c f) := q.flCycle_consistent hm c
  simp only [flSequence]
  split
  · split
    · exact moves 1
    · exact moves f.cycle
  · split <;> exact moves _
  · split
    · exact q.flCommand_consistent hm d
    · exact moves 0
  · split <;> exact moves _
  · split <;> exact moves _
  · exact q.flConfirm_consistent hm fa d

end FlashQuiet

theorem flReadArray_consistent (f : Flash) : FlashConsistent (flReadArray f) := ⟨.inl rfl, rfl, rfl, .inr rfl, rfl⟩

/-- A flipped toggle bit leaves the other status bits as they are (R511). -/
theorem flStatusToggled_and (st : Byte) : flStatusToggled st &&& ~~~Param.fstToggle = st &&& ~~~Param.fstToggle := by
  ext i
  cases h : st[i] <;> simp [flStatusToggled, h]

namespace FlashConsistent

variable {n : Inst} {z : FlashSize} {f : Flash} (h : FlashConsistent f)

include h

/-- A further block in the erase window (R508). -/
theorem flQueueMore_consistent (hm : f.mode = .eraseAccept) (fa : FlashAddr) : FlashConsistent (flQueueMore z fa f) :=
  ⟨h.cycle, h.done, by simp [flQueueMore, armAccept, hm], .inl hm, h.status⟩

theorem flWrite_consistent (fa : FlashAddr) (d : Byte) : FlashConsistent (flWrite n fa d f) := by
  cases hm : f.mode <;> simp only [flWrite, hm]
  case programSetup => exact (h.quiet (.inr (.inr hm))).flProgram_consistent fa d
  case programming => exact h
  case eraseAccept =>
    split
    · exact flReadArray_consistent f
    · split
      · exact h.flQueueMore_consistent hm fa
      · exact h
  case erasing | chipErasing | programError =>
    split
    · exact flReadArray_consistent f
    · exact h
  case readArray =>
    split
    · exact flReadArray_consistent f
    · exact (h.quiet (.inl hm)).flSequence_consistent (.inl hm) fa d
  case autoselect =>
    split
    · exact flReadArray_consistent f
    · exact (h.quiet (.inr (.inl hm))).flSequence_consistent (.inr hm) fa d

theorem flStatusRead_consistent (hm : ¬takesBytes f.mode) : FlashConsistent (flStatusRead f) := by
  refine ⟨h.cycle, h.done, h.accept, h.pending, ?_⟩
  have status := h.status
  cases hf : f.mode
  case readArray | autoselect | programSetup => exact absurd hf (by simp_all [takesBytes])
  all_goals
    simp only [flashStatusWf, hf, flStatusRead, flStatusToggled_and] at status ⊢
    exact status

theorem flRead_consistent (fa : FlashAddr) : FlashConsistent (flRead n fa f).2 := by
  cases hm : f.mode <;> simp only [flRead, hm]
  case readArray | autoselect | programSetup => exact h
  all_goals exact h.flStatusRead_consistent (by simp [takesBytes, hm])

/-- The erase window's timer runs in the window alone, where the status is clear beside the toggle bit (R509). -/
theorem flAcceptFire_consistent (ha : f.acceptArmed = true) : FlashConsistent (flAcceptFire n f) := by
  have window : f.mode = .eraseAccept := beq_iff_eq.1 (h.accept.symm.trans ha)
  have clear : f.status &&& ~~~Param.fstToggle = 0 := by simpa [flashStatusWf, window] using h.status
  refine ⟨.inl rfl, rfl, rfl, .inr rfl, beq_iff_eq.2 ?_⟩
  change (f.status ||| Param.fstTimeout) &&& ~~~Param.fstToggle = Param.fstTimeout
  rw [BitVec.and_or_distrib_right, clear]
  decide

/-- The completion timer runs in the busy modes alone, where no block is queued (R514). -/
theorem flDoneFire_consistent (hd : f.doneArmed = true) : FlashConsistent (flDoneFire f) := by
  have busy : flashBusy f.mode = true := h.done.symm.trans hd
  have other : f.mode ≠ .eraseAccept := fun hm => by simp [hm, flashBusy] at busy
  exact ⟨.inl rfl, rfl, h.accept.trans (beq_eq_false_iff_ne.2 other), .inr (h.pending.resolve_left other), rfl⟩

/-- However it moves, the flash unit stays consistent. -/
theorem flashMove_consistent {f' : Flash} (m : FlashMove n f f') : FlashConsistent f' := by
  cases m with
  | rest => exact h
  | write fa d => exact h.flWrite_consistent fa d
  | read fa => exact h.flRead_consistent fa
  | acceptFire armed => exact h.flAcceptFire_consistent armed
  | doneFire armed => exact h.flDoneFire_consistent armed

end FlashConsistent

/-- Settles O57: every step makes one move of the flash unit. -/
theorem flashInvariantKept : Obligations.FlashInvariantKept := by
  intro s t hs h
  rw [flashWf_iff] at hs ⊢
  exact hs.flashMove_consistent (step_keeps h).flash

end Sys2Proof.Proofs
end

section
/-! The flash unit's cycles (R500 to R517): what a write cycle does in each mode, the command sequence by its byte, what an
erase leaves of the array, and the statements that follow. -/
namespace Sys2Proof.Proofs

open Sys2Proof.Machine Sys2Proof.Safety Sys2Proof.Laws

/-! ### Instructions are cycles of their bytes -/

/-- Each command is the write cycle of its byte (R161). -/
theorem exec_flashCommand (s : State) : ∀ e ∈ flashCommands, exec e.2 s = .next (flashWrite e.1 s) := by
  simp only [flashCommands, List.forall_mem_cons, List.not_mem_nil, false_implies, implies_true, and_true]
  and_intros <;> rfl

/-- A byte that is no command is none of any commands' bytes. -/
theorem not_mem_of_no_command {d : Byte} (h : ∀ e ∈ flashCommands, e.1 ≠ d) {bytes : List Byte}
    (commands : ∀ b ∈ bytes, b ∈ flashCommands.map Prod.fst) : d ∉ bytes := by
  intro hd
  obtain ⟨e, row, rfl⟩ := List.mem_map.1 (commands d hd)
  exact h e row rfl

theorem exec_flashProgramData (d : Byte) (s : State) : exec (.flashProgramData d) s = .next (flashWrite d s) := rfl

/-- The instruction of a byte is its write cycle, whether the flash waits for program data or not (R500). -/
theorem exec_flashInstr (p : Bool) (d : Byte) (s : State) : exec (flashInstr p d) s = .next (flashWrite d s) := by
  unfold flashInstr
  split
  · exact exec_flashProgramData d s
  · split
    · next e found =>
      obtain ⟨row, rfl⟩ := mem_of_find?_key found
      exact exec_flashCommand s e row
    · exact exec_flashProgramData d s

theorem cmdMatch_flashAddrOf (s : State) (v : FlashVariant) (u : Word) :
    cmdMatch v (flashAddrOf s) u = true ↔ s.reg.flashAddr &&& cmdAddrMask v = u := beq_iff_eq

/-! ### A write cycle by mode -/

section

variable (n : Inst) (fa : FlashAddr) {d : Byte} {f : Flash}

theorem flWrite_programming (hm : f.mode = .programming) : flWrite n fa d f = f := by
  simp only [flWrite, hm]

theorem flWrite_programSetup (hm : f.mode = .programSetup) : flWrite n fa d f = flProgram n.flashSize fa d f := by
  simp only [flWrite, hm]

/-- Read-array is taken in every mode but while programming and where the byte is program data (R501, R512, R513). -/
theorem flWrite_readArray (setup : f.mode ≠ .programSetup) (busy : f.mode ≠ .programming) :
    flWrite n fa Param.cmdReadArray f = flReadArray f := by
  cases hm : f.mode
  case programSetup => exact absurd hm setup
  case programming => exact absurd hm busy
  all_goals simp only [flWrite, hm, if_true]

/-- An erase, and a program error, take no other byte (R516, R517). -/
theorem flWrite_erasing (hm : f.mode = .erasing ∨ f.mode = .chipErasing ∨ f.mode = .programError)
    (hd : d ≠ Param.cmdReadArray) : flWrite n fa d f = f := by
  rcases hm with hm | hm | hm <;> simp only [flWrite, hm, if_neg hd]

/-- The erase window takes a further block, and no byte but that and read-array (R508). -/
theorem flWrite_eraseAccept (hm : f.mode = .eraseAccept) (hd : d ≠ Param.cmdReadArray) :
    flWrite n fa d f = if d = Param.cmdBlockErase then flQueueMore n.flashSize fa f else f := by
  simp only [flWrite, hm, if_neg hd]

/-- In read-array and autoselect mode every other byte is a cycle of the command sequence (R502). -/
theorem flWrite_sequence (hm : f.mode = .readArray ∨ f.mode = .autoselect) (hd : d ≠ Param.cmdReadArray) :
    flWrite n fa d f = flSequence n fa d f := by
  rcases hm with hm | hm <;> simp only [flWrite, hm, if_neg hd]

end

/-- Read-array, wherever it is taken, leaves the flash in read-array mode with nothing under way (R501). -/
theorem exec_flashReadArray {s : State} (setup : s.flash.mode ≠ .programSetup) (busy : s.flash.mode ≠ .programming) :
    exec .flashReadArray s = .next { s with flash := flReadArray s.flash } := by
  rw [← flWrite_readArray s.inst (flashAddrOf s) setup busy]
  rfl

/-! ### The command sequence by its byte -/

section

variable {n : Inst} {fa : FlashAddr} {d : Byte} {f : Flash}

theorem flCommand_other (hd : d ∉ [Param.cmdAutoselect, Param.cmdProgram, Param.cmdEraseSetup]) :
    flCommand d f = flCycle 0 f := by
  simp only [List.mem_cons, List.not_mem_nil, or_false, not_or] at hd
  simp only [flCommand, hd, if_false]

theorem flConfirm_other (hd : d ∉ [Param.cmdChipErase, Param.cmdBlockErase]) : flConfirm n fa d f = flCycle 0 f := by
  simp only [List.mem_cons, List.not_mem_nil, or_false, not_or] at hd
  simp only [flConfirm, hd, false_and, if_false]

theorem flConfirm_chipErase : flConfirm n fa Param.cmdChipErase f =
    if cmdMatch n.flashVariant fa (unlock1 n.flashVariant) then flChipErase n.flashSize f else flCycle 0 f := by
  have other : Param.cmdChipErase ≠ Param.cmdBlockErase := by decide
  simp only [flConfirm, true_and, other, if_false]

/-- At cycle 0 a byte out of place starts the sequence over. -/
theorem flCycle_zero_of_start (h : f.cycle = 0) : flCycle 0 f = f := by rw [← h]; rfl

/-- The first unlock byte has its place at the cycles 0 and 3 (R502, R505). -/
theorem flSequence_unlock1 : flSequence n fa Param.cmdUnlock1 f =
    flCycle (if f.cycle = 0 ∧ cmdMatch n.flashVariant fa (unlock1 n.flashVariant) then 1
      else if f.cycle = 3 ∧ cmdMatch n.flashVariant fa (unlock1 n.flashVariant) then 4 else 0) f := by
  have command : flCommand Param.cmdUnlock1 f = flCycle 0 f := flCommand_other (by decide)
  have confirm : flConfirm n fa Param.cmdUnlock1 f = flCycle 0 f := flConfirm_other (by decide)
  have other : Param.cmdUnlock1 ≠ Param.cmdUnlock2 := by decide
  simp only [flSequence, command, confirm, other]
  split
  next h => simp [h, apply_ite (flCycle · f), flCycle_zero_of_start]
  all_goals next h => simp [h, apply_ite (flCycle · f)]

/-- The second unlock byte has its place at the cycles 1 and 4 (R503, R506). -/
theorem flSequence_unlock2 : flSequence n fa Param.cmdUnlock2 f =
    flCycle (if f.cycle = 1 ∧ cmdMatch n.flashVariant fa (unlock2 n.flashVariant) then 2
      else if f.cycle = 4 ∧ cmdMatch n.flashVariant fa (unlock2 n.flashVariant) then 5 else 0) f := by
  have command : flCommand Param.cmdUnlock2 f = flCycle 0 f := flCommand_other (by decide)
  have confirm : flConfirm n fa Param.cmdUnlock2 f = flCycle 0 f := flConfirm_other (by decide)
  have other : Param.cmdUnlock2 ≠ Param.cmdUnlock1 := by decide
  simp only [flSequence, command, confirm, other]
  split
  next h => simp [h, flCycle_zero_of_start]
  all_goals next h => simp [h, apply_ite (flCycle · f)]

/-- A byte that is none of the unlock and confirm bytes has its place at cycle 2 (R504). -/
theorem flSequence_command
    (hd : d ∉ [Param.cmdUnlock1, Param.cmdUnlock2, Param.cmdChipErase, Param.cmdBlockErase]) : flSequence n fa d f =
      if f.cycle = 2 ∧ cmdMatch n.flashVariant fa (unlock1 n.flashVariant) then flCommand d f else flCycle 0 f := by
  simp only [List.mem_cons, List.not_mem_nil, or_false, not_or] at hd
  have confirm : flConfirm n fa d f = flCycle 0 f := flConfirm_other (by simp [hd])
  simp only [flSequence, hd, confirm]
  split
  next h => simp [h, flCycle_zero_of_start]
  all_goals next h => simp [h]

/-- A byte that is none of the unlock and command bytes has its place at cycle 5 (R507). -/
theorem flSequence_confirm (hd : d ∉ [Param.cmdUnlock1, Param.cmdUnlock2, Param.cmdAutoselect, Param.cmdProgram,
    Param.cmdEraseSetup]) : flSequence n fa d f = if f.cycle = 5 then flConfirm n fa d f else flCycle 0 f := by
  simp only [List.mem_cons, List.not_mem_nil, or_false, not_or] at hd
  have command : flCommand d f = flCycle 0 f := flCommand_other (by simp [hd])
  simp only [flSequence, hd, command]
  split
  next h => simp [h, flCycle_zero_of_start]
  all_goals next h => simp [h]

end

/-- A command in read-array or autoselect mode is a cycle of the sequence. -/
theorem exec_flashCommand_sequence {s : State} (hm : s.flash.mode = .readArray ∨ s.flash.mode = .autoselect) {d : Byte}
    {i : Instr} (row : (d, i) ∈ flashCommands) (hd : d ≠ Param.cmdReadArray) :
    exec i s = .next { s with flash := flSequence s.inst (flashAddrOf s) d s.flash } := by
  rw [← flWrite_sequence s.inst (flashAddrOf s) hm hd]
  exact exec_flashCommand s _ row

/-! ### The array after an erase -/

/-- A byte of the array is erased with its block, if that is selected and not protected (R509, R515). -/
theorem erasable_eq (z : FlashSize) (sel prot : Vector Bool 8) {a : Nat} (ha : a < flashBytes z) :
    erasable z sel prot a =
      (sel[Fin.ofNat 8 (a / blockSize z)] && !prot[Fin.ofNat 8 (a / blockSize z)]) := by
  have size : 0 < blockSize z := by cases z <;> decide
  have blocks : a / blockSize z < 8 := Nat.div_lt_of_lt_mul (by cases z <;> simpa [flashBytes, blockSize] using ha)
  have inBlock (k : Fin 8) :
      (k.val * blockSize z ≤ a ∧ a < (k.val + 1) * blockSize z) ↔ k = Fin.ofNat 8 (a / blockSize z) := by
    rw [Fin.ext_iff, Fin.val_ofNat, Nat.mod_eq_of_lt blocks, eq_comm, Nat.div_eq_iff size, Nat.succ_mul]
    omega
  rw [Bool.eq_iff_iff]
  simp [erasable, and_assoc, inBlock]

/-- What an erase leaves of the array: the bytes of its blocks are gone, and no other byte changes (R509, R515). -/
theorem blocksErased_eraseBlocks (z : FlashSize) (sel prot : Vector Bool 8) (m : List Host.Cell) :
    blocksErased z (fun k => sel[k] && !prot[k]) m (eraseBlocks z sel prot m) := by
  intro a ha
  rw [eraseBlocks, memory_read_filter, erasable_eq z sel prot ha]

/-- The set of one queued block. -/
theorem set_replicate_false (k : Fin 8) :
    (Vector.replicate 8 false).set k true = Vector.ofFn fun j => decide (j = k) := by
  ext i hi
  simp [Vector.getElem_set, Fin.ext_iff, eq_comm]

/-! ### The statements on write cycles -/

/-- Settles O52: each byte has its place in the sequence, and read-array ends it. -/
theorem flashCommandSequence : Obligations.FlashCommandSequence := by
  intro s hm f v z at1 at2 block goes
  have cycle (d : Byte) {i : Instr} {f' : Flash} (h : flSequence s.inst (flashAddrOf s) d f = f')
      (row : (d, i) ∈ flashCommands) (hd : d ≠ Param.cmdReadArray) : goes i f' :=
    h ▸ exec_flashCommand_sequence hm row hd
  have match1 := cmdMatch_flashAddrOf s s.inst.flashVariant (unlock1 s.inst.flashVariant)
  have match2 := cmdMatch_flashAddrOf s s.inst.flashVariant (unlock2 s.inst.flashVariant)
  have command (d : Byte) := flSequence_command (n := s.inst) (fa := flashAddrOf s) (f := f) (d := d)
  have confirm (d : Byte) := flSequence_confirm (n := s.inst) (fa := flashAddrOf s) (f := f) (d := d)
  refine ⟨?unlock1, ?unlock2, ?autoselect, ?program, ?eraseSetup, ?blockErase, ?chipErase, ?readArray, ?other⟩
  case unlock1 =>
    refine cycle Param.cmdUnlock1 (flSequence_unlock1.trans ?_) (by simp [flashCommands]) (by decide)
    simp only [match1]; rfl
  case unlock2 =>
    refine cycle Param.cmdUnlock2 (flSequence_unlock2.trans ?_) (by simp [flashCommands]) (by decide)
    simp only [match2]; rfl
  case autoselect =>
    refine cycle Param.cmdAutoselect ((command _ (by decide)).trans ?_) (by simp [flashCommands]) (by decide)
    simp only [match1]; rfl
  case program =>
    refine cycle Param.cmdProgram ((command _ (by decide)).trans ?_) (by simp [flashCommands]) (by decide)
    simp only [match1]; rfl
  case eraseSetup =>
    refine cycle Param.cmdEraseSetup ((command _ (by decide)).trans ?_) (by simp [flashCommands]) (by decide)
    simp only [match1]; exact (apply_ite (flCycle · f) _ _ _).symm
  case blockErase =>
    refine cycle Param.cmdBlockErase ((confirm _ (by decide)).trans ?_) (by simp [flashCommands]) (by decide)
    simp only [← set_replicate_false]; rfl
  case chipErase =>
    refine ⟨eraseBlocks z (.replicate 8 true) f.prot f.array, ?_, ?_⟩
    · refine cycle Param.cmdChipErase ((confirm _ (by decide)).trans ?_) (by simp [flashCommands]) (by decide)
      simp only [flConfirm_chipErase, match1, ← ite_and]; rfl
    · simpa using blocksErased_eraseBlocks z (.replicate 8 true) f.prot f.array
  case readArray => exact exec_flashReadArray (by grind) (by grind)
  case other =>
    intro d hd
    have other : d ≠ Param.cmdReadArray := (hd (Param.cmdReadArray, .flashReadArray) (by simp [flashCommands])).symm
    have out : flSequence s.inst (flashAddrOf s) d f = flCycle 0 f := by
      rw [command d (not_mem_of_no_command hd (by decide)), flCommand_other (not_mem_of_no_command hd (by decide)),
        ite_self]
    change exec (.flashProgramData d) s = .next { s with flash := flCycle 0 f }
    rw [exec_flashProgramData, flashWrite, flWrite_sequence _ _ hm other, out]

/-- Settles O53: the three branches of the rule. -/
theorem flashProgramByte : Obligations.FlashProgramByte := by
  intro s d hw hm f at' goes
  obtain ⟨-, -, array, -⟩ := (memoriesWf_iff s).1 hw
  have cycle {f' : Flash} (h : flProgram s.inst.flashSize (flashAddrOf s) d f = f') : goes f' := by
    rw [← h, ← flWrite_programSetup s.inst (flashAddrOf s) hm]
    exact exec_flashProgramData d s
  split
  case isTrue guarded => exact cycle (if_pos guarded)
  case isFalse free =>
    split
    case isTrue sets => exact cycle ((if_neg free).trans (if_pos (bne_iff_ne.2 sets)))
    case isFalse clears =>
      exact ⟨Memory.write flashDefault f.array at' d, cycle ((if_neg free).trans (if_neg (clears ∘ bne_iff_ne.1))),
        memory_read_write array at' d⟩

/-! ### The statements on the busy modes and on reads -/

/-- Where the flash ignores every byte but those of the commands `taken`, no other command changes anything, nor does a byte
that is none. -/
theorem exec_ignored {s : State} (taken : List Byte)
    (h : ∀ d ∉ taken, flWrite s.inst (flashAddrOf s) d s.flash = s.flash)
    (commands : ∀ d ∈ taken, d ∈ flashCommands.map Prod.fst) {others : List Instr}
    (ho : ∀ i ∈ others, ∃ e ∈ flashCommands, e.2 = i ∧ e.1 ∉ taken) :
    (∀ i ∈ others, exec i s = .next s)
      ∧ ∀ d, (∀ e ∈ flashCommands, e.1 ≠ d) → exec (.flashProgramData d) s = .next s := by
  constructor
  · intro i hi
    obtain ⟨e, row, rfl, other⟩ := ho i hi
    rw [exec_flashCommand s e row, flashWrite, h _ other]
  · intro d hd
    rw [exec_flashProgramData, flashWrite, h d (not_mem_of_no_command hd commands)]

/-- The fire of an armed timer between two passes (R605). -/
theorem step_fire {s : State} {t : Timer} {rest : List HostEvent} (hf : s.faulted = none) (hr : s.sxp.running = false)
    (hs : s.env.script = .fire t :: rest) (ha : timerArmed t s = true) :
    step s = .next (fireTimer t { s with env := { s.env with script := rest } }) := by
  refine step_of_go hf ((nextWork_event hr hs).trans (if_pos ?_))
  cases t <;> exact ha

/-- Settles O54: a mode at a time, and then the two timers. -/
theorem flashBusyModes : Obligations.FlashBusyModes := by
  intro s f z goes others array ignores
  refine ⟨?programming, ?erasing, ?window, ?acceptFire, ?doneFire⟩
  case programming =>
    exact fun hm => exec_ignored [] (fun d _ => flWrite_programming _ _ hm) (by decide) (by decide)
  case erasing =>
    intro hm
    exact ⟨exec_flashReadArray (by grind) (by grind),
      exec_ignored [Param.cmdReadArray] (fun d hd => flWrite_erasing _ _ hm (by simpa using hd)) (by decide) (by decide)⟩
  case window =>
    intro hm
    have block : flWrite s.inst (flashAddrOf s) Param.cmdBlockErase s.flash = flQueueMore z (flashAddrOf s) f :=
      (flWrite_eraseAccept _ _ hm (by decide)).trans (if_pos rfl)
    refine ⟨exec_flashReadArray (by grind) (by grind), ?_,
      exec_ignored [Param.cmdReadArray, Param.cmdBlockErase] ?_ (by decide) (by decide)⟩
    · exact congrArg (fun f' => Host.Outcome.next { s with flash := f' }) block
    · intro d hd
      obtain ⟨array, queue⟩ : d ≠ Param.cmdReadArray ∧ d ≠ Param.cmdBlockErase := by simpa using hd
      exact (flWrite_eraseAccept _ _ hm array).trans (if_neg queue)
  case acceptFire =>
    intro rest hf hr hs ha
    exact ⟨eraseBlocks z f.pending f.prot f.array, step_fire hf hr hs ha,
      blocksErased_eraseBlocks z f.pending f.prot f.array⟩
  case doneFire => exact fun rest hf hr hs ha => step_fire hf hr hs ha

/-- An autoselect byte, as the host reads it (R163). -/
theorem zeroExtend_autoselectByte (n : Inst) (fa : FlashAddr) (f : Flash) :
    (autoselectByte n fa f).zeroExtend 16 =
      if flashIndex n.flashSize fa % 4 = 0 then (manufId n.flashVariant).zeroExtend 16
      else if flashIndex n.flashSize fa % 4 = 1 then (modelId n.flashVariant).zeroExtend 16
      else if flashIndex n.flashSize fa % 4 = 2 then (if f.prot[flashBlock n.flashSize fa] then 1 else 0) else 0 := by
  unfold autoselectByte
  split
  next h => rw [if_pos h]
  next h => rw [h]; rfl
  next h => rw [h]; cases f.prot[flashBlock n.flashSize fa] <;> rfl
  next h0 h1 h2 => rw [if_neg h0, if_neg h1, if_neg h2]; rfl

/-- Settles O55: a read by mode; the port is a cycle of the unit. -/
theorem flashReadsAndDataPort : Obligations.FlashReadsAndDataPort := by
  intro s v f z fa low
  refine ⟨?read, (exec_flashInstr _ _ s).symm, _, rfl⟩
  case read =>
    intro i hi
    have cycle : exec i s = .next (flashRead s) := by
      simp only [List.mem_cons, List.not_mem_nil, or_false] at hi
      rcases hi with rfl | rfl <;> rfl
    rw [cycle]
    refine congrArg _ ?_
    cases hm : f.mode <;> simp only [flashRead, flRead, show s.flash.mode = _ from hm]
    case readArray | programSetup => rfl
    case autoselect => rw [zeroExtend_autoselectByte]; rfl
    case programming | programError | eraseAccept | erasing | chipErasing => rw [← hm]; rfl

end Sys2Proof.Proofs
end

section
/-! Where the instruction of a step comes from (R400, R606): the work of a step in the middle of a pass, the work of a bus
event, and the statement that joins them with what an event without an instruction does. -/

namespace Sys2Proof.Proofs

open Sys2Proof.Machine Sys2Proof.Safety Sys2Proof.Laws

theorem step_of_refuse {s : State} {r : Refusal} (hf : s.faulted = none) (h : nextWork s = .refuse r) :
    step s = .refused r := by
  simp only [step, hf, h]

/-! ### The work of a pass -/

section
variable {s : State} (running : s.sxp.running = true) (idle : s.sxp.state = .idle)
include running idle

/-- A pending mailbox command comes first (R401). -/
theorem nextWork_mailbox (pending : s.sxp.mboxCmdPending = true) : nextWork s = .run (.mailbox s.reg.mbin[0]) s := by
  simp only [nextWork, passWork, running, idle, pending, if_true]

/-- With no command pending, what is fetched is run in the state that the fetch left (R402, R405). -/
theorem nextWork_descriptor {o : Origin} {b : List Byte} {t : State} (pending : s.sxp.mboxCmdPending = false)
    (found : fetch s = .descriptor o b t) : nextWork s = .run (.iocb o b) t := by
  simp only [nextWork, passWork, running, idle, pending, found, if_true, Bool.false_eq_true, if_false]

end

/-! ### The work of an event -/

/-- A bus event is the run of its request (R606). -/
theorem eventWork_bus {e : HostEvent} {r : Request} (h : busRequest e = some r) (s : State) : eventWork e s = .run r s := by
  cases e with
  | read off | write off v | flashWrite d | flashRead => cases h; rfl
  | store a bytes | fire t | pciReset => cases h

/-- The fire of a timer that is not armed is refused (log 17). -/
theorem eventWork_fire_unarmed {t : Timer} {s : State} (h : timerArmed t s = false) :
    eventWork (.fire t) s = .refuse (.timerNotArmed t) :=
  if_neg (ne_true_of_eq_false h)

/-- Whether a timer is armed is a matter of the engine and the flash unit, not of the script. -/
theorem timerArmed_script (t : Timer) (s : State) (rest : List HostEvent) :
    timerArmed t { s with env := { s.env with script := rest } } = timerArmed t s := by
  cases t <;> rfl

/-- Settles O4: the work of the step, in the middle of a pass or at the first event of the script, is that of its clause. -/
theorem stepRunsDecodedInstruction : Obligations.StepRunsDecodedInstruction := by
  intro s hf
  refine ⟨?access, ?mailbox, ?descriptor, ?store, ?unarmed, ?reset⟩
  case access =>
    intro e rest r i hr hs bus hd
    -- decoding does not look at the script
    exact step_of_run hf ((nextWork_event hr hs).trans (eventWork_bus bus _)) hd
  case mailbox =>
    intro i running idle pending hd
    exact step_of_run hf (nextWork_mailbox running idle pending) hd
  case descriptor =>
    intro o b t i running idle pending found hd
    exact step_of_run hf (nextWork_descriptor running idle pending found) hd
  case store =>
    intro rest a bytes hr hs
    exact step_of_go hf (nextWork_event hr hs)
  case unarmed =>
    intro rest t hr hs unarmed
    have still := (timerArmed_script t s rest).trans unarmed
    exact step_of_refuse hf ((nextWork_event hr hs).trans (eventWork_fire_unarmed still))
  case reset =>
    intro rest hr hs
    exact step_of_go hf (nextWork_event hr hs)

end Sys2Proof.Proofs
end

section
/-! What holds at power-on (R700, R701): the parts of the block that start a step start quiet, whatever the card, the protected
blocks and the flash image. -/

namespace Sys2Proof.Proofs

open Sys2Proof.Machine Sys2Proof.Safety Sys2Proof.Laws

/-- No cell is listed. -/
theorem canonical_nil {w : Nat} (d : BitVec w) (n : Nat) : Canonical d n [] :=
  ⟨rfl, rfl⟩

section

variable (inst : Inst) (prot : Vector Bool 8) (image : List Host.Cell)

/-- Host memory lists no cell, firmware memory at most the sentinel, and the flash array is the image (R59, R69, R701). -/
theorem powerOn_memoriesWf {image : List Host.Cell} (h : Canonical flashDefault (flashBytes inst.flashSize) image) :
    memoriesWf (State.powerOn inst prot image) = true :=
  (memoriesWf_iff _).2 ⟨canonical_nil _ _, fwReset_wf, h⟩

/-- The flash unit starts in read-array mode at the first cycle, with nothing under way (R65 to R68). -/
theorem flashPowerOn_wf : flashWf (Flash.powerOn prot image) = true :=
  (flashWf_iff _).2
    { cycle := .inl rfl
      done := rfl
      accept := rfl
      pending := .inr rfl
      status := rfl }

/-- A reset leaves the engine in `Idle` with no descriptor, no posting, no initialised ring, no slot in the abort queue, no PIO
buffer and no direct request (R49 to R62, R700). -/
theorem sxpReset_wf : engineWf (Sxp.reset inst) = true := by
  have packet : (Sxp.reset inst).pkt.isSome = holdsPacket (Sxp.reset inst) := rfl
  have response : (Sxp.reset inst).pktResp.isSome = holdsResponse (Sxp.reset inst) := rfl
  have path : postKindWf (Sxp.reset inst) = true := rfl
  have timer : timerWf (Sxp.reset inst) = true := rfl
  have rings : ringsWf (Sxp.reset inst) = true := rfl
  have aborts : abortQWf (Sxp.reset inst) = true := by
    simp [abortQWf, Sxp.reset]
  have pio : pioWf (Sxp.reset inst) = true := rfl
  have direct : (Sxp.reset inst).directReq = none := rfl
  simp [engineWf, packet, response, path, timer, rings, aborts, pio, direct]

/-- With no ring initialised the idle engine finds nothing to do (R403, R700). -/
theorem ringBlocked_powerOn : ringBlocked (State.powerOn inst prot image) = some .nothingToDo := rfl

/-- No pass runs, and the idle engine has no command, no direct request and no ring to take (R450). -/
theorem powerOn_atRest : atRest (State.powerOn inst prot image) = true := by
  have idle : waits (State.powerOn inst prot image) = true := congrArg Option.isSome (ringBlocked_powerOn inst prot image)
  rw [atRest, idle]
  rfl

theorem powerOn_engineInv : engineInv (State.powerOn inst prot image) = true := by
  rw [engineInv, powerOn_atRest, Bool.or_true, Bool.and_true]
  exact sxpReset_wf inst

end

/-- Settles O60: each part of the block starts with its invariant, the flash array by the image's canonical form. -/
theorem powerOnMeetsInvariants : Obligations.PowerOnMeetsInvariants := by
  intro inst prot image canonical below
  exact ⟨powerOn_memoriesWf inst prot ⟨canonical, below⟩, regsReset_wf inst, flashPowerOn_wf prot image,
    powerOn_engineInv inst prot image, powerOn_atRest inst prot image, rfl⟩

end Sys2Proof.Proofs
end
